-- ==== Sys2Proof/Word.lean ====
section
/-! DEFINITION. The word types of PFE: a byte and a frame (spec/00_scope.md R8, R10; spec/20_memory.md R63). -/

namespace Sys2Proof

/-- An unsigned 8-bit value, bit 0 the least significant (R8). -/
abbrev Byte := BitVec 8

/-- A frame is the byte list of one outbound message, first byte on the wire first (R10, R63). -/
abbrev Frame := List Byte

end Sys2Proof
end

