-- ==== Sys2Proof/Config.lean ====
section
/-! DEFINITION. What the builder of a PFE fixes (the open parameters of spec/00_scope.md R7), what the transport may
answer (spec/40_codec.md R141), and the free values of the model. -/

namespace Sys2Proof

/-- The opaque cause of a transport failure: "an opaque value the model passes on unchanged" (R141). -/
structure Cause where
  tag : Nat
  deriving DecidableEq, Repr, Inhabited

/-- One answer of the transport to one call (R141). One type serves all four calls: the bytes of `ok` are what a read
handed back (an open, a write or a close hands nothing back, its bytes are ignored), and `delivered` is how many bytes
of a failed write had reached the peripheral (R307(b): any prefix), which PFE does not see.
DESIGN CHOICE, log entries 4 and 5. -/
inductive Reply where
  | ok (bytes : List Byte)
  | fail (cause : Cause) (delivered : Nat)
  | never
  deriving DecidableEq, Repr, Inhabited

/-- The open parameters of R7. `none` for an opcode means "not given" (R99(b)), `none` for the length means "no bound"
(R78: "A model with unbounded lists may set MAX_PARAM_LEN = ∞"). -/
structure Config where
  monoStageOp  : Option Byte
  monoCommitOp : Option Byte
  extraOpcodes : List Byte
  maxParamLen  : Option Nat
  deriving DecidableEq, Repr

/-- The parameters a reset machine has: mode 2 not configured, no extra opcodes (the default of R7), no length bound.
DESIGN CHOICE, log entry 2. -/
def Config.atReset : Config :=
  { monoStageOp := none, monoCommitOp := none, extraOpcodes := [], maxParamLen := none }

/-- R7: `MAX_PARAM_LEN` is at least 52, the largest encoder payload. -/
def Config.wf (cfg : Config) : Bool :=
  match cfg.maxParamLen with
  | none => true
  | some n => 52 ≤ n

/-- Free value: the transport's answer to the call with this number (the oracle `TRANSPORT` of R7, D37), used where the
state lists no further answer. Log entry 4. -/
opaque Config.transportReply : Nat → Reply

/-- Free value: which waiting requester is served next (R315: "a free choice"). Log entry 8. -/
opaque Config.schedule : Nat → Nat

end Sys2Proof
end

