-- ==== Sys2Proof/Syntax.lean ====
section
/-! DEFINITION. The syntax of requests: cells and matrices (spec/41_pixel.md R190, spec/30_encoding.md R97 and
spec/92_eei_decisions.md D29), the five request kinds of R97, and `Instr`, one constructor per row of
spec/opcode_table.json. -/

namespace Sys2Proof

/-- One matrix cell (R190). -/
inductive Cell where
  | bin (b : Bool)
  | grey (v : Byte)
  | rgb (r g b : Byte)
  deriving DecidableEq, Repr

/-- The kind of a cell (R190). -/
inductive CellKind where
  | bin
  | grey
  | rgb
  deriving DecidableEq, Repr

/-- A matrix term is a list of columns, each a list of cells, row 0 first (D29): `M[x][y]` is row `y` of column `x`
(R11). -/
abbrev CellMatrix := List (List Cell)

/-- The request terms of R97. -/
inductive Request where
  | cmd (op : Byte) (params : List Byte) (resp : Bool)
  | encFullMono (m : CellMatrix)
  | encColMono (m : CellMatrix)
  | encColGrey (m : CellMatrix)
  | encWideMono (m : CellMatrix)
  deriving DecidableEq, Repr

/-- The instructions, one per row of spec/opcode_table.json: the 21 listed opcodes (R95, R150 to R170) and the three
opcodes that are parameters (R171, R226), each of which stands for a `CMD` request (R101), and the five request kinds
themselves (R97). `resp` is the host-side flag of `CMD?`. -/
inductive Instr where
  | brightness (params : List Byte) (resp : Bool)
  | pattern (params : List Byte) (resp : Bool)
  | bootloaderReset (params : List Byte) (resp : Bool)
  | sleep (params : List Byte) (resp : Bool)
  | animate (params : List Byte) (resp : Bool)
  | panic (params : List Byte) (resp : Bool)
  | draw (params : List Byte) (resp : Bool)
  | stageGreyCol (params : List Byte) (resp : Bool)
  | drawGreyColBuffer (params : List Byte) (resp : Bool)
  | setText (params : List Byte) (resp : Bool)
  | startGame (params : List Byte) (resp : Bool)
  | gameControl (params : List Byte) (resp : Bool)
  | setColor (params : List Byte) (resp : Bool)
  | displayOn (params : List Byte) (resp : Bool)
  | invertScreen (params : List Byte) (resp : Bool)
  | setPixelColumn (params : List Byte) (resp : Bool)
  | flushFramebuffer (params : List Byte) (resp : Bool)
  | screenSaver (params : List Byte) (resp : Bool)
  | setFps (params : List Byte) (resp : Bool)
  | setPowerMode (params : List Byte) (resp : Bool)
  | version (params : List Byte) (resp : Bool)
  | extraOpcode (v : Byte) (params : List Byte) (resp : Bool)
  | monoStage (x : Fin 9) (packed : Vector Byte 5) (resp : Bool)
  | monoCommit (resp : Bool)
  | cmd (op : Byte) (params : List Byte) (resp : Bool)
  | encFullMono (m : CellMatrix)
  | encColMono (m : CellMatrix)
  | encColGrey (m : CellMatrix)
  | encWideMono (m : CellMatrix)
  deriving DecidableEq, Repr

end Sys2Proof
end

