-- ==== Sys2Proof/Machine/State.lean ====
section
/-! DEFINITION. The state of PFE (spec/10_state.md R30 to R37) with the ports around it (spec/70_reset_and_hazards.md
R350), the completion codes (spec/60_exceptions.md R300), the ways a step can stop, and the state after reset (R43). -/

namespace Sys2Proof.Machine

/-- R31. `opening` is the spec's OPEN. -/
inductive Phase where
  | idle
  | check
  | opening
  | write
  | read
  | close
  deriving DecidableEq, Repr

/-- The completion codes of R300. -/
inductive Code where
  | ok
  | dimensionError
  | transportOpen
  | transportWrite
  | transportRead
  | transportShortRead
  | transportClose
  deriving DecidableEq, Repr

/-- What a request gives on the completion port (R138). -/
structure Completion where
  code     : Code
  cause    : Option Cause
  response : Option (List Byte)
  deriving DecidableEq, Repr

/-- A call on the transport port (R69). `openSession` is `T.open()`. -/
inductive Call where
  | openSession
  | write (frame : Frame)
  | read (n : Nat)
  | close
  deriving DecidableEq, Repr

/-- The state. `phase` to `rbuf` are the tuple of R30; `cfg` holds the open parameters of R7, which no step writes;
`waiting` to `completions` are the ports: for each requester the requests it has presented and PFE has not accepted
(R73), whether a requester applies reset (R340), the transport's next answers (R141), the calls that returned with
their answers and the completions given (R351), each oldest first. -/
structure State where
  cfg         : Config
  phase       : Phase
  latch       : Option Instr
  frames      : List Frame
  fidx        : Nat
  session     : Bool
  err         : Option Code
  cause       : Option Cause
  rbuf        : Option (List Byte)
  waiting     : List (List Instr)
  resetLine   : Bool
  replies     : List Reply
  log         : List (Call × Reply)
  completions : List Completion
  deriving DecidableEq, Repr

/-- The states in which PFE has no enabled step. -/
inductive Fault where
  /-- R318: the transport call never returns, PFE stays in its phase for ever (stuck, not final). Raised by the steps of
  OPEN, WRITE, READ and CLOSE. Safe. -/
  | neverReturns (call : Call)
  /-- R141, D27, I16: a read returned `n` > 32 bytes, which has no move. Raised by the step of READ. Safe towards PFE;
  the spec marks the missing move as erring toward proving only against a transport that breaks its contract. -/
  | overlongRead (n : Nat)
  /-- A state no run reaches, in which no rule of R133 to R138 fires: no request latched outside IDLE, or `fidx` beyond
  the frames in WRITE. Raised by `step` and the step of WRITE. Safe. Log entry 17. -/
  | noEnabledStep
  deriving DecidableEq, Repr

/-- The refusals of R305 and R340: "the model marks the whole state as refused and takes no further step". -/
inductive Refusal where
  /-- An instruction without a meaning yet (none in this model). Safe. -/
  | notModelled (mnemonic : String)
  /-- R96(c), R305: an opcode that is not admitted. Raised in CHECK. Safe. -/
  | opcodeNotAdmitted (op : Byte)
  /-- R78, R305: parameters longer than `MAX_PARAM_LEN`. Raised in CHECK. Safe. -/
  | paramsTooLong (n : Nat)
  /-- R99(b), R305: mode 2 without its opcodes configured. Raised in CHECK. Safe. -/
  | monoOpcodesUnset
  /-- R99(c), R198, R305: BIN cells in mode 3. Raised in CHECK. Safe. -/
  | binaryInGreyMode
  /-- R99(d), R305: a malformed matrix term (cells of several kinds). Raised in CHECK. Safe. -/
  | malformedMatrix
  /-- R340, I15: reset applied outside IDLE. Raised by `step`. Safe. -/
  | resetOutsideIdle
  deriving DecidableEq, Repr

/-- The machine right after reset (R43, R341). `frames` and `fidx`, which R43 leaves unspecified, hold the empty list
and 0: DESIGN CHOICE, log entry 3. The parameters: log entry 2. -/
def State.reset : State :=
  { cfg := Config.atReset, phase := .idle, latch := none, frames := [], fidx := 0, session := false, err := none,
    cause := none, rbuf := none, waiting := [], resetLine := false, replies := [], log := [], completions := [] }

end Sys2Proof.Machine
end

