-- ==== Sys2Proof/Machine/Flags.lean ====
section
/-! DEFINITION. PFE has no flags (spec/10_state.md R40); what stands in their place are the status a requester can
observe (R40) and the numbers and classes of the completion codes (spec/60_exceptions.md R300). -/

namespace Sys2Proof.Machine

/-- `busy = (phase ≠ IDLE)` (R40). -/
def State.busy (s : State) : Bool := s.phase != .idle

/-- The spec's own numbers of the codes (R300, D18). -/
def Code.number : Code → Nat
  | .ok => 0
  | .dimensionError => 1
  | .transportOpen => 2
  | .transportWrite => 3
  | .transportRead => 4
  | .transportShortRead => 5
  | .transportClose => 6

/-- Codes 2 to 6 are the source's one class `TransportError` (R300). -/
def Code.isTransport (c : Code) : Bool := 2 ≤ c.number

end Sys2Proof.Machine
end

