-- ==== Sys2Proof/Machine/Params.lean ====
section
/-! DEFINITION. The fixed parameters of spec/00_scope.md R6 and the opcode map of spec/30_encoding.md R95, each literal
of the source as one named constant (spec/93_implementation_defined.md I18), and the request an instruction stands
for (R101, R171, R226). -/

namespace Sys2Proof.Param

abbrev magic0 : Byte := 0x32
abbrev magic1 : Byte := 0xAC
/-- `RESP_LEN`, the bytes of a response. -/
abbrev respLen : Nat := 32
/-- `SW`, columns of the small display. -/
abbrev smallWidth : Nat := 9
/-- `SH`, rows of the small display. -/
abbrev smallHeight : Nat := 34
/-- `FULL_LEN`, the mode-1 payload. -/
abbrev fullLen : Nat := 39
/-- `WW`, columns of the wide display. -/
abbrev wideWidth : Nat := 300
/-- `WH`, rows of the wide display. -/
abbrev wideHeight : Nat := 400
/-- `THRESH`, the monochrome threshold on the average brightness. -/
abbrev thresh : Nat := 127

abbrev opBrightness : Byte := 0x00
abbrev opPattern : Byte := 0x01
abbrev opBootloaderReset : Byte := 0x02
abbrev opSleep : Byte := 0x03
abbrev opAnimate : Byte := 0x04
abbrev opPanic : Byte := 0x05
abbrev opDraw : Byte := 0x06
abbrev opStageGreyCol : Byte := 0x07
abbrev opDrawGreyColBuffer : Byte := 0x08
abbrev opSetText : Byte := 0x09
abbrev opStartGame : Byte := 0x10
abbrev opGameControl : Byte := 0x11
abbrev opSetColor : Byte := 0x13
abbrev opDisplayOn : Byte := 0x14
abbrev opInvertScreen : Byte := 0x15
abbrev opSetPixelColumn : Byte := 0x16
abbrev opFlushFramebuffer : Byte := 0x17
abbrev opScreenSaver : Byte := 0x19
abbrev opSetFps : Byte := 0x1A
abbrev opSetPowerMode : Byte := 0x1B
abbrev opVersion : Byte := 0x20

/-- The opcode values of R95's table, in its order. -/
def listedOpcodes : List Byte :=
  [opBrightness, opPattern, opBootloaderReset, opSleep, opAnimate, opPanic, opDraw, opStageGreyCol,
   opDrawGreyColBuffer, opSetText, opStartGame, opGameControl, opSetColor, opDisplayOn, opInvertScreen,
   opSetPixelColumn, opFlushFramebuffer, opScreenSaver, opSetFps, opSetPowerMode, opVersion]

end Sys2Proof.Param

namespace Sys2Proof

/-- The parameters of a mode-2 stage command: the column index as one byte, then the five packed bytes (R98, R226). -/
def monoStageParams (x : Fin 9) (packed : Vector Byte 5) : List Byte :=
  BitVec.ofNat 8 x.val :: packed.toList

/-- The request kind (R97) an instruction stands for: a listed opcode is `CMD` with its opcode (R101), an extra opcode
is `CMD` with it (R171), the two mode-2 frames are `CMD` with the configured opcode, and none where that opcode is not
given. -/
def Instr.request? (cfg : Config) : Instr → Option Request
  | .brightness p r => some (.cmd Param.opBrightness p r)
  | .pattern p r => some (.cmd Param.opPattern p r)
  | .bootloaderReset p r => some (.cmd Param.opBootloaderReset p r)
  | .sleep p r => some (.cmd Param.opSleep p r)
  | .animate p r => some (.cmd Param.opAnimate p r)
  | .panic p r => some (.cmd Param.opPanic p r)
  | .draw p r => some (.cmd Param.opDraw p r)
  | .stageGreyCol p r => some (.cmd Param.opStageGreyCol p r)
  | .drawGreyColBuffer p r => some (.cmd Param.opDrawGreyColBuffer p r)
  | .setText p r => some (.cmd Param.opSetText p r)
  | .startGame p r => some (.cmd Param.opStartGame p r)
  | .gameControl p r => some (.cmd Param.opGameControl p r)
  | .setColor p r => some (.cmd Param.opSetColor p r)
  | .displayOn p r => some (.cmd Param.opDisplayOn p r)
  | .invertScreen p r => some (.cmd Param.opInvertScreen p r)
  | .setPixelColumn p r => some (.cmd Param.opSetPixelColumn p r)
  | .flushFramebuffer p r => some (.cmd Param.opFlushFramebuffer p r)
  | .screenSaver p r => some (.cmd Param.opScreenSaver p r)
  | .setFps p r => some (.cmd Param.opSetFps p r)
  | .setPowerMode p r => some (.cmd Param.opSetPowerMode p r)
  | .version p r => some (.cmd Param.opVersion p r)
  | .extraOpcode v p r => some (.cmd v p r)
  | .monoStage x packed r => cfg.monoStageOp.map fun op => .cmd op (monoStageParams x packed) r
  | .monoCommit r => cfg.monoCommitOp.map fun op => .cmd op [] r
  | .cmd op p r => some (.cmd op p r)
  | .encFullMono m => some (.encFullMono m)
  | .encColMono m => some (.encColMono m)
  | .encColGrey m => some (.encColGrey m)
  | .encWideMono m => some (.encWideMono m)

end Sys2Proof
end

