-- ==== Sys2Proof/Machine/Checks.lean ====
section
/-! DEFINITION. The single checks the well-formedness of a request rests on: admitted opcodes (spec/30_encoding.md R96),
the length bound (spec/20_memory.md R78), the mode-2 opcodes and the cell kinds (R99). -/

namespace Sys2Proof

/-- R96: an admitted opcode is a listed one (a) or a member of `EXTRA_OPCODES` (b). -/
def Config.admits (cfg : Config) (op : Byte) : Bool :=
  Param.listedOpcodes.contains op || cfg.extraOpcodes.contains op

/-- R78, R99(a): the parameter list is not longer than `MAX_PARAM_LEN`. -/
def Config.fits (cfg : Config) (params : List Byte) : Bool :=
  match cfg.maxParamLen with
  | none => true
  | some n => params.length ≤ n

/-- R99(b): both mode-2 opcodes are given and each is admitted. -/
def Config.monoConfigured (cfg : Config) : Bool :=
  match cfg.monoStageOp, cfg.monoCommitOp with
  | some stage, some commit => cfg.admits stage && cfg.admits commit
  | _, _ => false

def Cell.kind : Cell → CellKind
  | .bin _ => .bin
  | .grey _ => .grey
  | .rgb _ _ _ => .rgb

/-- Every cell is of kind `k`. -/
def CellMatrix.allOfKind (m : CellMatrix) (k : CellKind) : Bool :=
  m.all fun col => col.all fun c => c.kind == k

/-- R99(d), R190: all cells are of one kind. -/
def CellMatrix.uniform (m : CellMatrix) : Bool :=
  m.allOfKind .bin || m.allOfKind .grey || m.allOfKind .rgb

/-- R99(c), R198: no cell is a BIN cell. -/
def CellMatrix.noBin (m : CellMatrix) : Bool :=
  m.all fun col => col.all fun c => c.kind != .bin

end Sys2Proof
end

