-- ==== Sys2Proof/WellFormed.lean ====
section
/-! DEFINITION. The decidable well-formedness check of a request, spec/30_encoding.md R99, clause by clause. The
dimension check is not part of it (R99). -/

namespace Sys2Proof

/-- R99. -/
def Request.wellFormed (cfg : Config) : Request → Bool
  | .cmd op params _ => cfg.admits op && cfg.fits params
  | .encFullMono m => m.uniform
  | .encColMono m => m.uniform && cfg.monoConfigured
  | .encColGrey m => m.uniform && m.noBin
  | .encWideMono m => m.uniform

/-- An instruction is well formed when it stands for a well-formed request. -/
def Instr.wellFormed (cfg : Config) (i : Instr) : Bool :=
  match i.request? cfg with
  | some r => r.wellFormed cfg
  | none => false

end Sys2Proof
end

