-- ==== Sys2Proof/Decode.lean ====
section
/-! DEFINITION. The wire encoding: the frame format of spec/30_encoding.md R90 and R131, the opcode map R95 as a table,
a decoder that is total on any bytes, and the encoder. PFE itself decodes no frame (R93); a frame is decoded here with
its end known (the whole byte list) and with `resp` beside it, since neither is on the wire. -/

namespace Sys2Proof

/-- `Frame(op, p) = [0x32, 0xAC, op] ++ p` (R131). -/
def frameOf (op : Byte) (params : List Byte) : Frame :=
  Param.magic0 :: Param.magic1 :: op :: params

/-- Why a byte list is no frame of an admitted opcode. -/
inductive DecodeError where
  /-- Fewer than the three header bytes of R90. -/
  | tooShort
  /-- The first two bytes are not the magic of R91. -/
  | badMagic (b0 b1 : Byte)
  /-- R96(c): an opcode that is not admitted. -/
  | opcodeNotAdmitted (op : Byte)
  deriving DecidableEq, Repr

/-- One row of the opcode map R95. -/
structure OpcodeRow where
  opcode   : Byte
  mnemonic : String
  build    : List Byte → Bool → Instr

/-- R95, in the order of its table. -/
def opcodeTable : List OpcodeRow :=
  [⟨Param.opBrightness, "BRIGHTNESS", .brightness⟩, ⟨Param.opPattern, "PATTERN", .pattern⟩,
   ⟨Param.opBootloaderReset, "BOOTLOADER_RESET", .bootloaderReset⟩, ⟨Param.opSleep, "SLEEP", .sleep⟩,
   ⟨Param.opAnimate, "ANIMATE", .animate⟩, ⟨Param.opPanic, "PANIC", .panic⟩, ⟨Param.opDraw, "DRAW", .draw⟩,
   ⟨Param.opStageGreyCol, "STAGE_GREY_COL", .stageGreyCol⟩] ++
  [⟨Param.opDrawGreyColBuffer, "DRAW_GREY_COL_BUFFER", .drawGreyColBuffer⟩, ⟨Param.opSetText, "SET_TEXT", .setText⟩,
   ⟨Param.opStartGame, "START_GAME", .startGame⟩, ⟨Param.opGameControl, "GAME_CONTROL", .gameControl⟩,
   ⟨Param.opSetColor, "SET_COLOR", .setColor⟩, ⟨Param.opDisplayOn, "DISPLAY_ON", .displayOn⟩,
   ⟨Param.opInvertScreen, "INVERT_SCREEN", .invertScreen⟩] ++
  [⟨Param.opSetPixelColumn, "SET_PIXEL_COLUMN", .setPixelColumn⟩,
   ⟨Param.opFlushFramebuffer, "FLUSH_FRAMEBUFFER", .flushFramebuffer⟩, ⟨Param.opScreenSaver, "SCREEN_SAVER", .screenSaver⟩,
   ⟨Param.opSetFps, "SET_FPS", .setFps⟩, ⟨Param.opSetPowerMode, "SET_POWER_MODE", .setPowerMode⟩,
   ⟨Param.opVersion, "VERSION", .version⟩]

/-- The shape of a mode-2 stage frame's parameters (R226): a column index 0 to 8, then five bytes. -/
def monoStageShape? : List Byte → Option (Fin 9 × Vector Byte 5)
  | [x, b0, b1, b2, b3, b4] =>
    if h : x.toNat < 9 then some (⟨x.toNat, h⟩, #v[b0, b1, b2, b3, b4]) else none
  | _ => none

/-- A frame under an opcode that is a parameter: a mode-2 stage or commit where it has that frame's opcode and shape
(R226), else a member of `EXTRA_OPCODES` (R171), else refused (R96(c)). DESIGN CHOICE of the order, log entry 13. -/
def decodeParameterOpcode (cfg : Config) (resp : Bool) (op : Byte) (params : List Byte) : Except DecodeError Instr :=
  if cfg.admits op then
    match monoStageShape? params with
    | some (x, packed) =>
      if cfg.monoStageOp = some op then .ok (.monoStage x packed resp) else .ok (.extraOpcode op params resp)
    | none =>
      if cfg.monoCommitOp = some op ∧ params = [] then .ok (.monoCommit resp) else .ok (.extraOpcode op params resp)
  else .error (.opcodeNotAdmitted op)

/-- The decoder of one whole frame (R90), `resp` given beside it. -/
def decode (cfg : Config) (resp : Bool) : List Byte → Except DecodeError Instr
  | b0 :: b1 :: op :: params =>
    if b0 = Param.magic0 ∧ b1 = Param.magic1 then
      match opcodeTable.find? fun row => row.opcode = op with
      | some row => .ok (row.build params resp)
      | none => decodeParameterOpcode cfg resp op params
    else .error (.badMagic b0 b1)
  | _ => .error .tooShort

/-- The opcode and parameters of the one frame a command puts on the wire; none for an encoder request, which has no
bit encoding (R97: "The term form, with no bit-level encoding"). -/
def Instr.command? (cfg : Config) (i : Instr) : Option (Byte × List Byte) :=
  match i.request? cfg with
  | some (.cmd op params _) => some (op, params)
  | _ => none

/-- The encoder: the frame bytes of a command (R90). -/
def encode (cfg : Config) (i : Instr) : Option Frame :=
  (i.command? cfg).map fun c => frameOf c.1 c.2

/-- The host-side response flag of a request, `Resp` of R135: an encoder request never reads (D15). -/
def Request.resp : Request → Bool
  | .cmd _ _ resp => resp
  | .encFullMono _ => false
  | .encColMono _ => false
  | .encColGrey _ => false
  | .encWideMono _ => false

def Instr.resp (cfg : Config) (i : Instr) : Bool :=
  match i.request? cfg with
  | some r => r.resp
  | none => false

/-- The instruction a frame decodes to is this one (log entry 13): the listed opcodes always; a mode-2 frame where its
opcode is given, admitted and not itself a listed opcode; an extra opcode that is no listed one and no mode-2 frame. An
encoder request has no encoding, and `CMD` decodes to the instruction named for its opcode. -/
def Instr.canonical (cfg : Config) : Instr → Bool
  | .extraOpcode v p _ =>
    !Param.listedOpcodes.contains v && cfg.extraOpcodes.contains v &&
      !((monoStageShape? p).isSome && cfg.monoStageOp == some v) && !(p.isEmpty && cfg.monoCommitOp == some v)
  | .monoStage _ _ _ =>
    match cfg.monoStageOp with
    | some op => !Param.listedOpcodes.contains op && cfg.extraOpcodes.contains op
    | none => false
  | .monoCommit _ =>
    match cfg.monoCommitOp with
    | some op => !Param.listedOpcodes.contains op && cfg.extraOpcodes.contains op
    | none => false
  | .cmd _ _ _ => false
  | .encFullMono _ => false
  | .encColMono _ => false
  | .encColGrey _ => false
  | .encWideMono _ => false
  | .brightness _ _ => true
  | .pattern _ _ => true
  | .bootloaderReset _ _ => true
  | .sleep _ _ => true
  | .animate _ _ => true
  | .panic _ _ => true
  | .draw _ _ => true
  | .stageGreyCol _ _ => true
  | .drawGreyColBuffer _ _ => true
  | .setText _ _ => true
  | .startGame _ _ => true
  | .gameControl _ _ => true
  | .setColor _ _ => true
  | .displayOn _ _ => true
  | .invertScreen _ _ => true
  | .setPixelColumn _ _ => true
  | .flushFramebuffer _ _ => true
  | .screenSaver _ _ => true
  | .setFps _ _ => true
  | .setPowerMode _ _ => true
  | .version _ _ => true

/-- The 24-bit header of a frame as R94 numbers it: `F[0]` is bits 23..16, `F[1]` bits 15..8, `F[2]` bits 7..0. -/
def headerBytes (w : Nat) : List Byte :=
  [BitVec.ofNat 8 (w / 65536), BitVec.ofNat 8 (w / 256), BitVec.ofNat 8 w]

/-- The bytes of a table word: the header word of R94 as the hardware sends it, then one byte for each further eight
bits, counted on from bit 24. -/
def tableBytes (nbits w : Nat) : List Byte :=
  headerBytes w ++ (List.range ((nbits - 24) / 8)).map fun k => BitVec.ofNat 8 (w / 2 ^ (24 + 8 * k))

/-- The instruction the decoder reads from a word of spec/opcode_table.json, without a response and under the parameters
of reset. -/
def decodeTableWord (nbits w : Nat) : Option Instr :=
  match decode Config.atReset false (tableBytes nbits w) with
  | .ok i => some i
  | .error _ => none

end Sys2Proof
end

