-- ==== Sys2Proof/Machine/Operands.lean ====
section
/-! DEFINITION. The operand forms of the encoder requests: the matrix read of spec/20_memory.md R61, the pixel front end
of spec/41_pixel.md R191 to R198, and the bit order of spec/20_memory.md R68. -/

namespace Sys2Proof

/-- `Cell(M, x, y)` (R61): defined inside the matrix only. -/
def CellMatrix.cell? (m : CellMatrix) (x y : Nat) : Option Cell :=
  (m[x]?).bind fun col => col[y]?

/-- `Sum` (R191): not defined for a BIN cell. -/
def Cell.sum? : Cell → Option Nat
  | .bin _ => none
  | .grey v => some (3 * v.toNat)
  | .rgb r g b => some (r.toNat + g.toNat + b.toNat)

/-- `OnSmall` (R193): the average, `Sum / 3` exactly (R192, D4), is above the threshold. -/
def Cell.onSmall : Cell → Bool
  | .bin b => b
  | .grey v => 3 * Param.thresh < 3 * v.toNat
  | .rgb r g b => 3 * Param.thresh < r.toNat + g.toNat + b.toNat

/-- `OnWide` (R194): the average is below the threshold; a BIN cell is on as given (D8). spec/44_encode_wide.md R275 keeps
this inverted polarity as the source states it; whether it is intended is an open question of the source (I10), recorded
in log entry 22. -/
def Cell.onWide : Cell → Bool
  | .bin b => b
  | .grey v => 3 * v.toNat < 3 * Param.thresh
  | .rgb r g b => r.toNat + g.toNat + b.toNat < 3 * Param.thresh

/-- The greyscale curve on the brightness sum, in integers (R196). -/
def curve (s : Nat) : Nat :=
  if 600 < s then s / 3
  else if 450 < s then (4 * s) / 15
  else if 300 < s then s / 6
  else if 150 ≤ s then s / 3
  else (2 * s) / 3

/-- `G` (R195, R196): not defined for a BIN cell (R198). -/
def Cell.grey? (c : Cell) : Option Byte :=
  c.sum?.map fun s => BitVec.ofNat 8 (curve s)

/-- The on test of the cell at (x, y). A pair outside the matrix is on nowhere; no encoder reads one after the dimension
check (R61). Log entry 15. -/
def CellMatrix.onAt (on : Cell → Bool) (m : CellMatrix) (x y : Nat) : Bool :=
  (m.cell? x y).any on

/-- `P[i div 8] <- P[i div 8] | (1 << (i mod 8))` (R68, D2). -/
def setBit (p : List Byte) (i : Nat) : List Byte :=
  p.modify (i / 8) fun b => b ||| (1#8 <<< (i % 8))

/-- Bit `i` of a packed byte list in the same order: 1 or 0 (R223's `Unpack1` reads bits so). -/
def bitAt (p : List Byte) (i : Nat) : Bool :=
  match p[i / 8]? with
  | some b => b.getLsbD (i % 8)
  | none => false

/-- `repeat(n, b)` (R10). -/
def zeros (n : Nat) : List Byte := List.replicate n 0

/-- `Idx16(x)`, little-endian (R272, R67). -/
def idx16 (x : Nat) : List Byte :=
  [BitVec.ofNat 8 (x % 256), BitVec.ofNat 8 (x / 256)]

end Sys2Proof
end

