-- ==== Sys2Proof/Machine/Frames.lean ====
section
/-! DEFINITION. The command lists of the four encoder modes (spec/42_encode_mono.md, spec/43_encode_grey.md,
spec/44_encode_wide.md), the frame list of a request (spec/40_codec.md R142) and the geometry of a request kind
(R133). -/

namespace Sys2Proof

/-- The pairs (x, y) of the small display in the loop order of `Pack1`: rows outside, columns inside (R221). -/
def smallCells : List (Nat × Nat) :=
  (List.range Param.smallHeight).flatMap fun y => (List.range Param.smallWidth).map fun x => (x, y)

/-- `Pack1` (R221): cell (x, y) goes to index `x + 9 * y` of a 39-byte buffer of zeros. -/
def pack1 (m : CellMatrix) : List Byte :=
  smallCells.foldl
    (fun p c => if m.onAt Cell.onSmall c.1 c.2 then setBit p (c.1 + Param.smallWidth * c.2) else p)
    (zeros Param.fullLen)

/-- `Unpack1` (R223), the decoder of the source's round trip: a test oracle, not an operation of PFE. -/
def unpack1 (p : List Byte) : CellMatrix :=
  (List.range Param.smallWidth).map fun x =>
    (List.range Param.smallHeight).map fun y => .bin (bitAt p (x + Param.smallWidth * y))

/-- `PackCol` (R225): row y of column x goes to index y of a buffer of `(H + 7) div 8` zeros. -/
def packCol (on : Cell → Bool) (m : CellMatrix) (x height : Nat) : List Byte :=
  (List.range height).foldl (fun p y => if m.onAt on x y then setBit p y else p) (zeros ((height + 7) / 8))

/-- `GreyCol` (R251): one intensity byte a row, row 0 first. A cell without an intensity (none after the checks of
CHECK) gives no byte. -/
def greyCol (m : CellMatrix) (x : Nat) : List Byte :=
  (List.range Param.smallHeight).filterMap fun y => (m.cell? x y).bind Cell.grey?

/-- `WideCol` (R271), with the polarity of R194 kept as R275 says. -/
def wideCol (m : CellMatrix) (x : Nat) : List Byte :=
  packCol Cell.onWide m x Param.wideHeight

/-- `Enc1` (R222). -/
def enc1 (m : CellMatrix) : List (Byte × List Byte) :=
  [(Param.opDraw, pack1 m)]

/-- `Enc2` (R226), under the configured opcodes. -/
def enc2 (stage commit : Byte) (m : CellMatrix) : List (Byte × List Byte) :=
  ((List.range Param.smallWidth).map fun x =>
    (stage, BitVec.ofNat 8 x :: packCol Cell.onSmall m x Param.smallHeight)) ++ [(commit, [])]

/-- `Enc3` (R252). -/
def enc3 (m : CellMatrix) : List (Byte × List Byte) :=
  ((List.range Param.smallWidth).map fun x => (Param.opStageGreyCol, BitVec.ofNat 8 x :: greyCol m x)) ++
    [(Param.opDrawGreyColBuffer, [])]

/-- `Enc4` (R273). -/
def enc4 (m : CellMatrix) : List (Byte × List Byte) :=
  ((List.range Param.wideWidth).map fun x => (Param.opSetPixelColumn, idx16 x ++ wideCol m x)) ++
    [(Param.opFlushFramebuffer, [])]

/-- The commands a request sends, in order. -/
def Request.commands (cfg : Config) : Request → List (Byte × List Byte)
  | .cmd op params _ => [(op, params)]
  | .encFullMono m => enc1 m
  | .encColMono m =>
    match cfg.monoStageOp, cfg.monoCommitOp with
    | some stage, some commit => enc2 stage commit m
    | _, _ => []
  | .encColGrey m => enc3 m
  | .encWideMono m => enc4 m

/-- `FramesOf` (R142). -/
def Request.frames (cfg : Config) (r : Request) : List Frame :=
  (r.commands cfg).map fun c => frameOf c.1 c.2

/-- `Geometry` of an encoder request kind, width and height (R133). -/
def Request.geometry? : Request → Option (Nat × Nat)
  | .cmd _ _ _ => none
  | .encFullMono _ => some (Param.smallWidth, Param.smallHeight)
  | .encColMono _ => some (Param.smallWidth, Param.smallHeight)
  | .encColGrey _ => some (Param.smallWidth, Param.smallHeight)
  | .encWideMono _ => some (Param.wideWidth, Param.wideHeight)

/-- The matrix of an encoder request. -/
def Request.matrix? : Request → Option CellMatrix
  | .cmd _ _ _ => none
  | .encFullMono m => some m
  | .encColMono m => some m
  | .encColGrey m => some m
  | .encWideMono m => some m

/-- The matrix has exactly `width` columns of exactly `height` cells (R301). -/
def CellMatrix.hasDims (m : CellMatrix) (width height : Nat) : Bool :=
  m.length == width && m.all fun col => col.length == height

/-- The dimension check of R133 and R301; a command has no matrix to check. -/
def Request.dimsOk (r : Request) : Bool :=
  match r.geometry?, r.matrix? with
  | some g, some m => m.hasDims g.1 g.2
  | _, _ => true

/-- The frames of an instruction, through the request it stands for. -/
def Instr.frames (cfg : Config) (i : Instr) : List Frame :=
  match i.request? cfg with
  | some r => r.frames cfg
  | none => []

def Instr.dimsOk (cfg : Config) (i : Instr) : Bool :=
  match i.request? cfg with
  | some r => r.dimsOk
  | none => true

end Sys2Proof
end

