-- ==== Sys2Proof/Machine/Ops.lean ====
section
/-! DEFINITION. The named operations of the session, spec/40_codec.md R133 to R138: the small updates of the state,
recording an error and completing (PFE's analogue of taking an exception and returning from it, spec/60_exceptions.md
R307 and R308), one step for each phase, and `serve`, the step a request takes in the phase it is in. -/

namespace Sys2Proof.Machine

abbrev StepResult := Host.Outcome State Fault Refusal

/-- R133, IDLE: `latch <- r; err <- none; cause <- none; rbuf <- none; phase <- CHECK`. -/
def State.accept (i : Instr) (s : State) : State :=
  { s with latch := some i, err := none, cause := none, rbuf := none, phase := .check }

/-- R133, CHECK: `frames <- FramesOf(r); phase <- OPEN`. -/
def State.loadFrames (fs : List Frame) (s : State) : State :=
  { s with frames := fs, phase := .opening }

def State.goto (p : Phase) (s : State) : State := { s with phase := p }

/-- R134, `ok`: `session <- true; fidx <- 0; phase <- WRITE`. -/
def State.opened (s : State) : State :=
  { s with session := true, fidx := 0, phase := .write }

/-- R135, `ok`: `fidx <- fidx + 1`. -/
def State.advance (s : State) : State := { s with fidx := s.fidx + 1 }

/-- R136: `rbuf <- b`. -/
def State.receive (b : List Byte) (s : State) : State := { s with rbuf := some b }

/-- R137: `session <- false`. -/
def State.endSession (s : State) : State := { s with session := false }

/-- `err <- code`, the cause left as it is (R133's dimension error, R136's short read). -/
def State.raise (code : Code) (s : State) : State := { s with err := some code }

/-- `err <- code; cause <- c` (R134 to R137). -/
def State.raiseWith (code : Code) (c : Cause) (s : State) : State := { s with err := some code, cause := some c }

/-- The completion R138 gives: OK where no error is recorded; the cause with a transport code only; the response with
OK and only where one was asked for. -/
def State.completion (resp : Bool) (s : State) : Completion :=
  let code := s.err.getD .ok
  { code := code
    cause := if code.isTransport then s.cause else none
    response := if code = .ok ∧ resp = true then s.rbuf else none }

/-- `Complete()` (R138): give the completion, then `latch <- none; phase <- IDLE`. -/
def State.complete (resp : Bool) (s : State) : State :=
  { s with completions := s.completions ++ [s.completion resp], latch := none, phase := .idle }

/-- The transport's answer to the next call (R141): the next one listed, and where none is listed a free one. -/
def State.reply (s : State) : Reply :=
  match s.replies with
  | r :: _ => r
  | [] => Config.transportReply s.log.length

/-- The call `c` has returned: its answer is used up and logged (R351). -/
def State.record (c : Call) (s : State) : State :=
  { s with replies := s.replies.tail, log := s.log ++ [(c, s.reply)] }

/-- R99(a) with the reasons of R305. -/
def commandRefusal? (cfg : Config) (op : Byte) (params : List Byte) : Option Refusal :=
  if cfg.admits op then
    if cfg.fits params then none else some (.paramsTooLong params.length)
  else some (.opcodeNotAdmitted op)

/-- R99(d) with its reason. -/
def matrixRefusal? (m : CellMatrix) : Option Refusal :=
  if m.uniform then none else some .malformedMatrix

/-- R99(b) with its reasons. -/
def monoRefusal? (cfg : Config) : Option Refusal :=
  match cfg.monoStageOp, cfg.monoCommitOp with
  | some stage, some commit =>
    if cfg.admits stage then
      if cfg.admits commit then none else some (.opcodeNotAdmitted commit)
    else some (.opcodeNotAdmitted stage)
  | _, _ => some .monoOpcodesUnset

/-- Why a request is refused (R305), if it is. The order of the reasons: DESIGN CHOICE, log entry 18. -/
def Request.refusal? (cfg : Config) : Request → Option Refusal
  | .cmd op params _ => commandRefusal? cfg op params
  | .encFullMono m => matrixRefusal? m
  | .encColMono m => (matrixRefusal? m).or (monoRefusal? cfg)
  | .encColGrey m => (matrixRefusal? m).or (if m.noBin then none else some .binaryInGreyMode)
  | .encWideMono m => matrixRefusal? m

/-- CHECK (R133): refusal first, then the dimension error (no transport call is made), else the frames. A request that
needs an opcode that is not given has no request term and is refused (R99(b)). -/
def checkStep (r? : Option Request) (s : State) : StepResult :=
  match r? with
  | none => .refused .monoOpcodesUnset
  | some r =>
    match Request.refusal? s.cfg r with
    | some why => .refused why
    | none =>
      if r.dimsOk then .next (s.loadFrames (r.frames s.cfg))
      else .next ((s.raise .dimensionError).complete r.resp)

/-- OPEN (R134). -/
def openStep (resp : Bool) (s : State) : StepResult :=
  match s.reply with
  | .ok _ => .next (s.record .openSession).opened
  | .fail c _ => .next (((s.record .openSession).raiseWith .transportOpen c).complete resp)
  | .never => .fault (.neverReturns .openSession)

/-- WRITE (R135). -/
def writeStep (resp : Bool) (s : State) : StepResult :=
  if s.fidx = s.frames.length then .next (s.goto (if resp then .read else .close))
  else
    match s.frames[s.fidx]? with
    | none => .fault .noEnabledStep
    | some f =>
      match s.reply with
      | .ok _ => .next (s.record (.write f)).advance
      | .fail c _ => .next (((s.record (.write f)).raiseWith .transportWrite c).goto .close)
      | .never => .fault (.neverReturns (.write f))

/-- READ (R136): one read of 32 bytes; more than 32 has no move (R141, D27). -/
def readStep (s : State) : StepResult :=
  match s.reply with
  | .ok b =>
    if b.length = Param.respLen then .next (((s.record (.read Param.respLen)).receive b).goto .close)
    else if b.length < Param.respLen then
      .next (((s.record (.read Param.respLen)).raise .transportShortRead).goto .close)
    else .fault (.overlongRead b.length)
  | .fail c _ => .next (((s.record (.read Param.respLen)).raiseWith .transportRead c).goto .close)
  | .never => .fault (.neverReturns (.read Param.respLen))

/-- CLOSE (R137): a close failure is recorded only where nothing failed before; then the session ends and the
completion is given. -/
def closeStep (resp : Bool) (s : State) : StepResult :=
  match s.reply with
  | .ok _ => .next ((s.record .close).endSession.complete resp)
  | .fail c _ =>
    if s.err = none then .next (((s.record .close).raiseWith .transportClose c).endSession.complete resp)
    else .next ((s.record .close).endSession.complete resp)
  | .never => .fault (.neverReturns .close)

/-- `Resp` of R135 for a request that may lack its opcode. -/
def respOf (r? : Option Request) : Bool :=
  match r? with
  | some r => r.resp
  | none => false

/-- One step of the instruction `i`, which stands for the request `r?`, in the phase the machine is in: "Each step fires
only in the phase it names. Steps are taken one at a time." (40_codec.md section 2). -/
def serve (i : Instr) (r? : Option Request) (s : State) : StepResult :=
  match s.phase with
  | .idle => .next (s.accept i)
  | .check => checkStep r? s
  | .opening => openStep (respOf r?) s
  | .write => writeStep (respOf r?) s
  | .read => readStep s
  | .close => closeStep (respOf r?) s

end Sys2Proof.Machine
end

