-- ==== Sys2Proof/Machine/Commands.lean ====
section
/-! DEFINITION. The meanings of the commands: the 21 listed opcodes (spec/40_codec.md R150 to R170), the opcodes in
`EXTRA_OPCODES` (R171), the two frames of mode 2 under their configured opcodes (spec/42_encode_mono.md R226) and `CMD`
itself (R130). Each is `CMD` with its fixed opcode: any parameters, framed verbatim (R132). -/

namespace Sys2Proof.Machine

/-- BRIGHTNESS, R150: `CMD(op, params, resp)` with its opcode. -/
def execBrightness (params : List Byte) (resp : Bool) (s : State) : StepResult :=
  serve (.brightness params resp) (some (.cmd Param.opBrightness params resp)) s

/-- PATTERN, R151: `CMD(op, params, resp)` with its opcode. -/
def execPattern (params : List Byte) (resp : Bool) (s : State) : StepResult :=
  serve (.pattern params resp) (some (.cmd Param.opPattern params resp)) s

/-- BOOTLOADER_RESET, R152: `CMD(op, params, resp)` with its opcode. -/
def execBootloaderReset (params : List Byte) (resp : Bool) (s : State) : StepResult :=
  serve (.bootloaderReset params resp) (some (.cmd Param.opBootloaderReset params resp)) s

/-- SLEEP, R153: `CMD(op, params, resp)` with its opcode. -/
def execSleep (params : List Byte) (resp : Bool) (s : State) : StepResult :=
  serve (.sleep params resp) (some (.cmd Param.opSleep params resp)) s

/-- ANIMATE, R154: `CMD(op, params, resp)` with its opcode. -/
def execAnimate (params : List Byte) (resp : Bool) (s : State) : StepResult :=
  serve (.animate params resp) (some (.cmd Param.opAnimate params resp)) s

/-- PANIC, R155: `CMD(op, params, resp)` with its opcode. -/
def execPanic (params : List Byte) (resp : Bool) (s : State) : StepResult :=
  serve (.panic params resp) (some (.cmd Param.opPanic params resp)) s

/-- DRAW, R156: `CMD(op, params, resp)` with its opcode. -/
def execDraw (params : List Byte) (resp : Bool) (s : State) : StepResult :=
  serve (.draw params resp) (some (.cmd Param.opDraw params resp)) s

/-- STAGE_GREY_COL, R157: `CMD(op, params, resp)` with its opcode. -/
def execStageGreyCol (params : List Byte) (resp : Bool) (s : State) : StepResult :=
  serve (.stageGreyCol params resp) (some (.cmd Param.opStageGreyCol params resp)) s

/-- DRAW_GREY_COL_BUFFER, R158: `CMD(op, params, resp)` with its opcode. -/
def execDrawGreyColBuffer (params : List Byte) (resp : Bool) (s : State) : StepResult :=
  serve (.drawGreyColBuffer params resp) (some (.cmd Param.opDrawGreyColBuffer params resp)) s

/-- SET_TEXT, R159: `CMD(op, params, resp)` with its opcode. -/
def execSetText (params : List Byte) (resp : Bool) (s : State) : StepResult :=
  serve (.setText params resp) (some (.cmd Param.opSetText params resp)) s

/-- START_GAME, R160: `CMD(op, params, resp)` with its opcode. -/
def execStartGame (params : List Byte) (resp : Bool) (s : State) : StepResult :=
  serve (.startGame params resp) (some (.cmd Param.opStartGame params resp)) s

/-- GAME_CONTROL, R161: `CMD(op, params, resp)` with its opcode. -/
def execGameControl (params : List Byte) (resp : Bool) (s : State) : StepResult :=
  serve (.gameControl params resp) (some (.cmd Param.opGameControl params resp)) s

/-- SET_COLOR, R162: `CMD(op, params, resp)` with its opcode. -/
def execSetColor (params : List Byte) (resp : Bool) (s : State) : StepResult :=
  serve (.setColor params resp) (some (.cmd Param.opSetColor params resp)) s

/-- DISPLAY_ON, R163: `CMD(op, params, resp)` with its opcode. -/
def execDisplayOn (params : List Byte) (resp : Bool) (s : State) : StepResult :=
  serve (.displayOn params resp) (some (.cmd Param.opDisplayOn params resp)) s

/-- INVERT_SCREEN, R164: `CMD(op, params, resp)` with its opcode. -/
def execInvertScreen (params : List Byte) (resp : Bool) (s : State) : StepResult :=
  serve (.invertScreen params resp) (some (.cmd Param.opInvertScreen params resp)) s

/-- SET_PIXEL_COLUMN, R165: `CMD(op, params, resp)` with its opcode. -/
def execSetPixelColumn (params : List Byte) (resp : Bool) (s : State) : StepResult :=
  serve (.setPixelColumn params resp) (some (.cmd Param.opSetPixelColumn params resp)) s

/-- FLUSH_FRAMEBUFFER, R166: `CMD(op, params, resp)` with its opcode. -/
def execFlushFramebuffer (params : List Byte) (resp : Bool) (s : State) : StepResult :=
  serve (.flushFramebuffer params resp) (some (.cmd Param.opFlushFramebuffer params resp)) s

/-- SCREEN_SAVER, R167: `CMD(op, params, resp)` with its opcode. -/
def execScreenSaver (params : List Byte) (resp : Bool) (s : State) : StepResult :=
  serve (.screenSaver params resp) (some (.cmd Param.opScreenSaver params resp)) s

/-- SET_FPS, R168: `CMD(op, params, resp)` with its opcode. -/
def execSetFps (params : List Byte) (resp : Bool) (s : State) : StepResult :=
  serve (.setFps params resp) (some (.cmd Param.opSetFps params resp)) s

/-- SET_POWER_MODE, R169: `CMD(op, params, resp)` with its opcode. -/
def execSetPowerMode (params : List Byte) (resp : Bool) (s : State) : StepResult :=
  serve (.setPowerMode params resp) (some (.cmd Param.opSetPowerMode params resp)) s

/-- VERSION, R170: `CMD(op, params, resp)` with its opcode. -/
def execVersion (params : List Byte) (resp : Bool) (s : State) : StepResult :=
  serve (.version params resp) (some (.cmd Param.opVersion params resp)) s

/-- EXTRA_OPCODE, R171: served as `CMD(v, params, resp)`. -/
def execExtraOpcode (v : Byte) (params : List Byte) (resp : Bool) (s : State) : StepResult :=
  serve (.extraOpcode v params resp) (some (.cmd v params resp)) s

/-- MONO_STAGE, R226: the stage frame of mode 2 under `MONO_STAGE_OP`; refused in CHECK while that is not given (D13). -/
def execMonoStage (x : Fin 9) (packed : Vector Byte 5) (resp : Bool) (s : State) : StepResult :=
  serve (.monoStage x packed resp) (s.cfg.monoStageOp.map fun op => .cmd op (monoStageParams x packed) resp) s

/-- MONO_COMMIT, R226: the commit frame of mode 2 under `MONO_COMMIT_OP`; refused in CHECK while that is not given
(D13). -/
def execMonoCommit (resp : Bool) (s : State) : StepResult :=
  serve (.monoCommit resp) (s.cfg.monoCommitOp.map fun op => .cmd op [] resp) s

/-- CMD, R130. -/
def execCmd (op : Byte) (params : List Byte) (resp : Bool) (s : State) : StepResult :=
  serve (.cmd op params resp) (some (.cmd op params resp)) s

end Sys2Proof.Machine
end

