-- ==== Sys2Proof/Machine/Encoders.lean ====
section
/-! DEFINITION. The meanings of the four encoder requests (spec/42_encode_mono.md R220 and R224, spec/43_encode_grey.md
R250, spec/44_encode_wide.md R270): the frames of the mode, then the session with `resp = false`. -/

namespace Sys2Proof.Machine

/-- ENC_FULL_MONO, R220. -/
def execEncFullMono (m : CellMatrix) (s : State) : StepResult :=
  serve (.encFullMono m) (some (.encFullMono m)) s

/-- ENC_COL_MONO, R224. -/
def execEncColMono (m : CellMatrix) (s : State) : StepResult :=
  serve (.encColMono m) (some (.encColMono m)) s

/-- ENC_COL_GREY, R250. -/
def execEncColGrey (m : CellMatrix) (s : State) : StepResult :=
  serve (.encColGrey m) (some (.encColGrey m)) s

/-- ENC_WIDE_MONO, R270. -/
def execEncWideMono (m : CellMatrix) (s : State) : StepResult :=
  serve (.encWideMono m) (some (.encWideMono m)) s

end Sys2Proof.Machine
end

