-- ==== Sys2Proof/Machine/Dispatch.lean ====
section
/-! DEFINITION. One arm per instruction. -/

namespace Sys2Proof.Machine

def exec (i : Instr) (s : State) : Host.Outcome State Fault Refusal :=
  match i with
  | .brightness params resp => Sys2Proof.Machine.execBrightness params resp s
  | .pattern params resp => Sys2Proof.Machine.execPattern params resp s
  | .bootloaderReset params resp => Sys2Proof.Machine.execBootloaderReset params resp s
  | .sleep params resp => Sys2Proof.Machine.execSleep params resp s
  | .animate params resp => Sys2Proof.Machine.execAnimate params resp s
  | .panic params resp => Sys2Proof.Machine.execPanic params resp s
  | .draw params resp => Sys2Proof.Machine.execDraw params resp s
  | .stageGreyCol params resp => Sys2Proof.Machine.execStageGreyCol params resp s
  | .drawGreyColBuffer params resp => Sys2Proof.Machine.execDrawGreyColBuffer params resp s
  | .setText params resp => Sys2Proof.Machine.execSetText params resp s
  | .startGame params resp => Sys2Proof.Machine.execStartGame params resp s
  | .gameControl params resp => Sys2Proof.Machine.execGameControl params resp s
  | .setColor params resp => Sys2Proof.Machine.execSetColor params resp s
  | .displayOn params resp => Sys2Proof.Machine.execDisplayOn params resp s
  | .invertScreen params resp => Sys2Proof.Machine.execInvertScreen params resp s
  | .setPixelColumn params resp => Sys2Proof.Machine.execSetPixelColumn params resp s
  | .flushFramebuffer params resp => Sys2Proof.Machine.execFlushFramebuffer params resp s
  | .screenSaver params resp => Sys2Proof.Machine.execScreenSaver params resp s
  | .setFps params resp => Sys2Proof.Machine.execSetFps params resp s
  | .setPowerMode params resp => Sys2Proof.Machine.execSetPowerMode params resp s
  | .version params resp => Sys2Proof.Machine.execVersion params resp s
  | .extraOpcode v params resp => Sys2Proof.Machine.execExtraOpcode v params resp s
  | .monoStage x packed resp => Sys2Proof.Machine.execMonoStage x packed resp s
  | .monoCommit resp => Sys2Proof.Machine.execMonoCommit resp s
  | .cmd op params resp => Sys2Proof.Machine.execCmd op params resp s
  | .encFullMono m => Sys2Proof.Machine.execEncFullMono m s
  | .encColMono m => Sys2Proof.Machine.execEncColMono m s
  | .encColGrey m => Sys2Proof.Machine.execEncColGrey m s
  | .encWideMono m => Sys2Proof.Machine.execEncWideMono m s

end Sys2Proof.Machine
end

