-- ==== Sys2Proof/Machine/Ports.lean ====
section
/-! DEFINITION. The ports a requester sees (spec/70_reset_and_hazards.md R350): presenting a request, the free choice
among the waiting requesters (spec/60_exceptions.md R315), applying reset (R340), and what the next step of PFE is. -/

namespace Sys2Proof.Machine

/-- Requester `n` presents `i` behind the requests it has presented before. -/
def enqueue (n : Nat) (i : Instr) (queues : List (List Instr)) : List (List Instr) :=
  match n, queues with
  | 0, [] => [[i]]
  | 0, q :: qs => (q ++ [i]) :: qs
  | n + 1, [] => [] :: enqueue n i []
  | n + 1, q :: qs => q :: enqueue n i qs

/-- A requester presents a request at any time; it is held until it is accepted (R73, R350). -/
def State.present (n : Nat) (i : Instr) (s : State) : State :=
  { s with waiting := enqueue n i s.waiting }

/-- A requester applies reset; the next step takes it (R340). -/
def State.raiseReset (s : State) : State := { s with resetLine := true }

/-- The requester served next: of those with a waiting request the one numbered `k`, the last of them where `k` is
larger. Its first request is taken and every other one stays held (R73, R315). -/
def pick : Nat → List (List Instr) → Option (Instr × List (List Instr))
  | _, [] => none
  | k, [] :: qs =>
    match pick k qs with
    | some (i, qs') => some (i, [] :: qs')
    | none => none
  | k, (i :: q) :: qs =>
    if qs.all List.isEmpty then some (i, q :: qs)
    else
      match k with
      | 0 => some (i, q :: qs)
      | k + 1 =>
        match pick k qs with
        | some (j, qs') => some (j, (i :: q) :: qs')
        | none => some (i, q :: qs)

/-- The PFE elements at the values of R43; the parameters, the held requests, the transport and the observations are
not PFE's state and stay. -/
def State.resetPfe (s : State) : State :=
  { State.reset with
    cfg := s.cfg, waiting := s.waiting, replies := s.replies, log := s.log, completions := s.completions }

/-- Reset may be applied only in IDLE and is refused elsewhere (R340, D23). -/
def applyReset (s : State) : StepResult :=
  match s.phase with
  | .idle => .next s.resetPfe
  | _ => .refused .resetOutsideIdle

/-- What PFE does next. -/
inductive Move where
  /-- The step of instruction `i` at state `s`. -/
  | run (i : Instr) (s : State)
  /-- IDLE with no request waiting. -/
  | wait
  /-- No request latched outside IDLE (no run reaches this). -/
  | lost
  deriving DecidableEq, Repr

def State.withWaiting (queues : List (List Instr)) (s : State) : State := { s with waiting := queues }

/-- In IDLE a waiting request is accepted, chosen freely (R133, R315); in every other phase the latched one goes on
(R32). -/
def State.nextMove (s : State) : Move :=
  match s.phase with
  | .idle =>
    match pick (Config.schedule s.completions.length) s.waiting with
    | some (i, queues) => .run i (s.withWaiting queues)
    | none => .wait
  | _ =>
    match s.latch with
    | some i => .run i s
    | none => .lost

/-- The request port as a freshly loaded program of one request leaves it: IDLE, no reset applied, `q` the only
requests waiting. -/
def State.onlyWaiting (q : List Instr) (s : State) : State :=
  { s with phase := .idle, latch := none, session := false, resetLine := false, waiting := [q] }

end Sys2Proof.Machine
end

