-- ==== Sys2Proof/Machine/Step.lean ====
section
/-! DEFINITION. One step of the machine, and placing one instruction on the request port. -/

namespace Sys2Proof.Machine

/-- One step (spec/40_codec.md section 2): a reset a requester applies comes first (R340); else the step of the request
being served or accepted; with nothing waiting PFE stays as it is (R341, log entry 7). -/
def step (s : State) : Host.Outcome State Fault Refusal :=
  if s.resetLine then applyReset s
  else
    match s.nextMove with
    | .run i s' => exec i s'
    | .wait => .next s
    | .lost => .fault .noEnabledStep

/-- The state in which the word's instruction is the one request presented (log entry 14); a word the decoder rejects
is no request, and then none is waiting. -/
def State.withFetchWord (s : State) (nbits w : Nat) : State :=
  s.onlyWaiting (decodeTableWord nbits w).toList

end Sys2Proof.Machine
end

