-- ==== Sys2Proof/Machine/Curve.lean ====
section
/-! DEFINITION. The average brightness and the greyscale curve as exact rationals (spec/41_pixel.md R192, R195; "All
arithmetic in the rules is exact on naturals or rationals", spec/00_scope.md R9). The machine computes with the integer
forms of R193, R194 and R196. -/

namespace Sys2Proof

/-- `Avg(c) = Sum(c) / 3` (R192). -/
def Cell.avg? (c : Cell) : Option ℚ :=
  c.sum?.map fun s : ℕ => (s : ℚ) / 3

/-- The curve of R195 on the average. -/
def curveOfAvg (a : ℚ) : ℕ :=
  if 200 < a then ⌊a⌋₊
  else if 150 < a then ⌊a * (4 / 5)⌋₊
  else if 100 < a then ⌊a * (1 / 2)⌋₊
  else if 50 ≤ a then ⌊a⌋₊
  else ⌊a * 2⌋₊

end Sys2Proof
end

