-- ==== Sys2Proof/Safety.lean ====
section
/-! DEFINITION. What the statements call a good state and a finished run: the invariant of the session, the record of
the transport calls a session has made, the final states and what is observed of them (spec/70_reset_and_hazards.md
R351), and when two states differ in nothing that is still read (spec/10_state.md R41). -/

namespace Sys2Proof.Machine

/-- The phases in which the frames of the latched request stand in `frames`. -/
def Phase.built : Phase → Bool
  | .idle => false
  | .check => false
  | .opening => true
  | .write => true
  | .read => true
  | .close => true

/-- The phases in which a session is open. -/
def Phase.inSession : Phase → Bool
  | .idle => false
  | .check => false
  | .opening => false
  | .write => true
  | .read => true
  | .close => true

/-- The invariant of the session. -/
structure State.Inv (s : State) : Prop where
  /-- R31, R32: a request is latched exactly outside IDLE. -/
  latched : s.phase = .idle ↔ s.latch = none
  /-- R35. -/
  sessionOpen : s.session = s.phase.inSession
  /-- R33: from OPEN on, `frames` is the frame list of the latched request, which passed the checks of CHECK. -/
  framesBuilt : s.phase.built = true →
    ∃ i, s.latch = some i ∧ s.frames = i.frames s.cfg ∧ i.wellFormed s.cfg = true ∧ i.dimsOk s.cfg = true
  /-- R34, while a session is open. -/
  indexBound : s.phase.inSession = true → s.fidx ≤ s.frames.length
  /-- R136: the read follows the last write, and only where a response was asked for. -/
  readAfterWrites : s.phase = .read →
    s.fidx = s.frames.length ∧ ∃ i, s.latch = some i ∧ i.resp s.cfg = true
  /-- R137, R138: in CLOSE without an error every frame is written, and the response is there exactly if it was asked
  for. -/
  closeClean : s.phase = .close → s.err = none →
    s.fidx = s.frames.length ∧ ∃ i, s.latch = some i ∧ s.rbuf.isSome = i.resp s.cfg
  /-- R37. -/
  responseLength : ∀ b, s.rbuf = some b → b.length = Param.respLen
  /-- R36: `err` holds an error. -/
  errorCode : s.err ≠ some .ok
  /-- R36: an error is recorded only once the request has failed, and no response is held before the read. -/
  cleanBefore : s.phase ≠ .idle → s.phase ≠ .close → s.err = none ∧ s.rbuf = none
  /-- R36: the cause stands beside a transport code only. -/
  causeWithTransport : s.cause ≠ none → ∃ c, s.err = some c ∧ c.isTransport = true

/-- The record of a successful write. -/
def writeOk (f : Frame) (b : List Byte) : Call × Reply := (.write f, .ok b)

/-- `calls` is an open that succeeded and then one successful write for each of `frames`, in order (R74). -/
def openedThenWrote (frames : List Frame) (calls : List (Call × Reply)) : Prop :=
  ∃ b bs, bs.length = frames.length ∧
    calls = (Call.openSession, Reply.ok b) :: (frames.zip bs).map fun p => writeOk p.1 p.2

/-- R74, R75, R139: what the log ends with. In WRITE the open and the writes of the frames before `fidx`; in READ the
open and the writes of all frames; in CLOSE without an error that and, if a response is held, the read that gave it. -/
structure State.LogInOrder (s : State) : Prop where
  whileWriting : s.phase = .write →
    ∃ pre calls, s.log = pre ++ calls ∧ openedThenWrote (s.frames.take s.fidx) calls
  beforeRead : s.phase = .read →
    ∃ pre calls, s.log = pre ++ calls ∧ openedThenWrote s.frames calls
  beforeClose : s.phase = .close → s.err = none →
    ∃ pre calls, openedThenWrote s.frames calls ∧
      s.log = pre ++ calls ++ s.rbuf.toList.map fun b => (Call.read Param.respLen, Reply.ok b)

/-- The bytes of a returned call that reached the peripheral: the frame of a successful write, of a failed one the
prefix the transport had delivered (R307(b), D35). -/
def deliveredBytes : Call × Reply → List Byte
  | (.write f, .ok _) => f
  | (.write f, .fail _ n) => f.take n
  | _ => []

/-- The bytes the peripheral has received, in order (R141: "in order, without loss"). -/
def State.wire (s : State) : List Byte := s.log.flatMap deliveredBytes

/-- `n` steps, as far as they go: the first fault or refusal stops them. -/
def runSteps : Nat → State → Host.Outcome State Fault Refusal
  | 0, s => .next s
  | n + 1, s =>
    match step s with
    | .next t => runSteps n t
    | .fault f => .fault f
    | .refused r => .refused r

/-- R351: final states. A refusal mark is an outcome of a step, so no state holds one. -/
def State.isFinal (s : State) : Bool :=
  s.phase == .idle && s.latch.isNone && s.waiting.all List.isEmpty

/-- The tuple of R30. -/
structure Tuple where
  phase   : Phase
  latch   : Option Instr
  frames  : List Frame
  fidx    : Nat
  session : Bool
  err     : Option Code
  cause   : Option Cause
  rbuf    : Option (List Byte)
  deriving DecidableEq, Repr

def State.tuple (s : State) : Tuple :=
  { phase := s.phase, latch := s.latch, frames := s.frames, fidx := s.fidx, session := s.session, err := s.err,
    cause := s.cause, rbuf := s.rbuf }

/-- R351: what is observed of a final run. -/
def State.observation (s : State) : List Completion × List (Call × Reply) × Tuple :=
  (s.completions, s.log, s.tuple)

/-- Two states agree on all that a later step can read: the ports, the parameters and the request; the frames from OPEN
on; `fidx` while a session is open; the error, its cause and the response outside IDLE (R41, R43). -/
structure State.AgreeOnLive (s t : State) : Prop where
  cfg : s.cfg = t.cfg
  phase : s.phase = t.phase
  latch : s.latch = t.latch
  session : s.session = t.session
  waiting : s.waiting = t.waiting
  resetLine : s.resetLine = t.resetLine
  replies : s.replies = t.replies
  log : s.log = t.log
  completions : s.completions = t.completions
  frames : s.phase.built = true → s.frames = t.frames
  fidx : s.phase.inSession = true → s.fidx = t.fidx
  outcome : s.phase ≠ .idle → s.err = t.err ∧ s.cause = t.cause ∧ s.rbuf = t.rbuf

/-- Two outcomes of a step that nothing read tells apart. -/
def SameOutcome : Host.Outcome State Fault Refusal → Host.Outcome State Fault Refusal → Prop
  | .next s, .next t => s.AgreeOnLive t
  | .fault f, .fault g => f = g
  | .refused r, .refused q => r = q
  | _, _ => False

/-- What a dimension error leaves (R133, R138): the error recorded, the completion (DIMENSION_ERROR, none, none) given,
no request latched, IDLE; no transport call made. -/
def dimensionErrorState (s : State) : State :=
  { s with
    err := some .dimensionError, completions := s.completions ++ [⟨.dimensionError, none, none⟩]
    latch := none, phase := .idle }

/-- The answers of a transport on which every call succeeds, for a session of `n` frames and the response `response` if
one is read. -/
def okReplies (n : Nat) (response : Option (List Byte)) : List Reply :=
  List.replicate (n + 1) (.ok []) ++ response.toList.map Reply.ok ++ [.ok []]

/-- The calls of such a session with their answers. -/
def okCalls (frames : List Frame) (response : Option (List Byte)) : List (Call × Reply) :=
  (Call.openSession, Reply.ok []) :: frames.map (fun f => writeOk f []) ++
    response.toList.map (fun b => (Call.read Param.respLen, Reply.ok b)) ++ [(Call.close, Reply.ok [])]

end Sys2Proof.Machine
end

