-- ==== Sys2Proof/Certificates/Slice0/Obligations.lean ====
section
/-! DEFINITION. The statements about PFE for the provers. -/

open Sys2Proof Sys2Proof.Machine

/-- For every opcode and parameter list the frame is [0x32, 0xAC, op] followed by the parameters, 3 bytes longer than
them. (R131) -/
def Obligations.FrameIsMagicOpcodeParameters : Prop :=
  ∀ (op : Byte) (p : List Byte), frameOf op p = [0x32, 0xAC, op] ++ p ∧ (frameOf op p).length = 3 + p.length

/-- Every frame of an instruction is 0x32, 0xAC, op and the parameters of one of its commands, with nothing inserted;
and every write call a step makes from a state of the invariant carries such a frame of the latched request. (R91) -/
def Obligations.EveryWrittenFrameStartsWithMagic : Prop :=
  (∀ (cfg : Config) (i : Instr) (f : Frame), f ∈ i.frames cfg →
    ∃ r op p, i.request? cfg = some r ∧ (op, p) ∈ r.commands cfg ∧ f = 0x32 :: 0xAC :: op :: p) ∧
  (∀ (s t : State) (f : Frame) (a : Reply), s.Inv → step s = .next t → t.log = s.log ++ [(.write f, a)] →
    ∃ i op p, s.latch = some i ∧ f ∈ i.frames s.cfg ∧ f = 0x32 :: 0xAC :: op :: p)

/-- Every canonical instruction (each listed opcode; an extra opcode or a mode-2 frame under the configuration) has a
frame, and decoding that frame with its response flag beside it gives the instruction back, every parameter included.
Several instructions may stand for one frame; which of them is canonical, so that CMD is not, is the model's choice
(log entry 13), and so is the flag beside the bytes (log entry 12). (R90, R94, R95, R131, R171, R226) -/
def Obligations.DecodingAnEncodedCommandGivesItBack : Prop :=
  ∀ (cfg : Config) (i : Instr), i.canonical cfg = true →
    ∃ f, encode cfg i = some f ∧ decode cfg (i.resp cfg) f = .ok i

/-- Whatever byte list decodes to an instruction is exactly the encoding of that instruction: no byte is dropped. The
instruction is the canonical one of those that stand for the frame, which is the model's choice (log entry 13), and it
carries the response flag given beside the bytes (log entry 12). (R90, R92, R95, R96, R131) -/
def Obligations.EncodingADecodedFrameGivesItBack : Prop :=
  ∀ (cfg : Config) (resp : Bool) (bytes : List Byte) (i : Instr), decode cfg resp bytes = .ok i →
    encode cfg i = some bytes ∧ i.resp cfg = resp ∧ i.canonical cfg = true

/-- A byte list of three or more bytes decodes exactly when it starts with the magic and its opcode is admitted (a
decision of the spec, D19); with the magic and another opcode it is rejected by that opcode's name; a shorter list is
rejected. (R90, R91, R96) -/
def Obligations.DecoderAcceptsExactlyAdmittedFrames : Prop :=
  (∀ (cfg : Config) (resp : Bool) (b0 b1 op : Byte) (p : List Byte),
    ((∃ i, decode cfg resp (b0 :: b1 :: op :: p) = .ok i) ↔ b0 = 0x32 ∧ b1 = 0xAC ∧ cfg.admits op = true)) ∧
  (∀ (cfg : Config) (resp : Bool) (op : Byte) (p : List Byte), cfg.admits op = false →
    decode cfg resp (0x32 :: 0xAC :: op :: p) = .error (.opcodeNotAdmitted op)) ∧
  (∀ (cfg : Config) (resp : Bool) (bytes : List Byte), bytes.length < 3 →
    decode cfg resp bytes = .error .tooShort)

/-- The 24-bit header word 0x32AC00 | opcode of each of the 21 listed opcodes decodes to that opcode's instruction
without parameters (and, the model's convention, without a response: log entry 12). (R94, R95) -/
def Obligations.ListedHeaderWordsDecode : Prop :=
  decodeTableWord 24 0x32AC00 = some (.brightness [] false) ∧
  decodeTableWord 24 0x32AC01 = some (.pattern [] false) ∧
  decodeTableWord 24 0x32AC02 = some (.bootloaderReset [] false) ∧
  decodeTableWord 24 0x32AC03 = some (.sleep [] false) ∧
  decodeTableWord 24 0x32AC04 = some (.animate [] false) ∧
  decodeTableWord 24 0x32AC05 = some (.panic [] false) ∧
  decodeTableWord 24 0x32AC06 = some (.draw [] false) ∧
  decodeTableWord 24 0x32AC07 = some (.stageGreyCol [] false) ∧
  decodeTableWord 24 0x32AC08 = some (.drawGreyColBuffer [] false) ∧
  decodeTableWord 24 0x32AC09 = some (.setText [] false) ∧
  decodeTableWord 24 0x32AC10 = some (.startGame [] false) ∧
  decodeTableWord 24 0x32AC11 = some (.gameControl [] false) ∧
  decodeTableWord 24 0x32AC13 = some (.setColor [] false) ∧
  decodeTableWord 24 0x32AC14 = some (.displayOn [] false) ∧
  decodeTableWord 24 0x32AC15 = some (.invertScreen [] false) ∧
  decodeTableWord 24 0x32AC16 = some (.setPixelColumn [] false) ∧
  decodeTableWord 24 0x32AC17 = some (.flushFramebuffer [] false) ∧
  decodeTableWord 24 0x32AC19 = some (.screenSaver [] false) ∧
  decodeTableWord 24 0x32AC1A = some (.setFps [] false) ∧
  decodeTableWord 24 0x32AC1B = some (.setPowerMode [] false) ∧
  decodeTableWord 24 0x32AC20 = some (.version [] false)

/-- For every configuration and request the check of CHECK finds no reason to refuse exactly when the well-formedness
check of R99 holds. (R99, R305) -/
def Obligations.RefusedExactlyWhenNotWellFormed : Prop :=
  ∀ (cfg : Config) (r : Request), Request.refusal? cfg r = none ↔ r.wellFormed cfg = true

/-- In CHECK, for every instruction: it is refused exactly when it is not well formed. By name: an opcode that is not
admitted (CMD, EXTRA_OPCODE, a mode-2 frame, mode 2), parameters longer than MAX_PARAM_LEN (CMD, EXTRA_OPCODE, each
listed opcode, MONO_STAGE), cells of several kinds, mode 2 and its two frames without their opcodes, and BIN cells in
mode 3 (decisions D8, D13, D19, D20 of the spec). The model's own: refusing MONO_STAGE and MONO_COMMIT (log entry 11),
the names and their order (log entry 18). (R96, R99, R305) -/
def Obligations.IllFormedRequestsAreRefusedByName : Prop :=
  ∀ (s : State), s.phase = .check →
    (∀ i, (∃ why, exec i s = .refused why) ↔ i.wellFormed s.cfg = false) ∧
    (∀ op p r, s.cfg.admits op = false →
      exec (.cmd op p r) s = .refused (.opcodeNotAdmitted op) ∧
      exec (.extraOpcode op p r) s = .refused (.opcodeNotAdmitted op)) ∧
    (∀ op p r, s.cfg.admits op = true → s.cfg.fits p = false →
      exec (.cmd op p r) s = .refused (.paramsTooLong p.length) ∧
      exec (.extraOpcode op p r) s = .refused (.paramsTooLong p.length)) ∧
    (∀ row ∈ opcodeTable, ∀ p r, s.cfg.fits p = false →
      exec (row.build p r) s = .refused (.paramsTooLong p.length)) ∧
    (∀ m, CellMatrix.uniform m = false →
      exec (.encFullMono m) s = .refused .malformedMatrix ∧ exec (.encColMono m) s = .refused .malformedMatrix ∧
      exec (.encColGrey m) s = .refused .malformedMatrix ∧ exec (.encWideMono m) s = .refused .malformedMatrix) ∧
    (∀ m, CellMatrix.uniform m = true → s.cfg.monoStageOp = none ∨ s.cfg.monoCommitOp = none →
      exec (.encColMono m) s = .refused .monoOpcodesUnset) ∧
    (∀ m stage commit, CellMatrix.uniform m = true →
      s.cfg.monoStageOp = some stage → s.cfg.monoCommitOp = some commit →
      (s.cfg.admits stage = false → exec (.encColMono m) s = .refused (.opcodeNotAdmitted stage)) ∧
      (s.cfg.admits stage = true → s.cfg.admits commit = false →
        exec (.encColMono m) s = .refused (.opcodeNotAdmitted commit))) ∧
    (∀ x packed r, s.cfg.monoStageOp = none → exec (.monoStage x packed r) s = .refused .monoOpcodesUnset) ∧
    (∀ x packed r op, s.cfg.monoStageOp = some op →
      (s.cfg.admits op = false → exec (.monoStage x packed r) s = .refused (.opcodeNotAdmitted op)) ∧
      (s.cfg.admits op = true → s.cfg.fits (BitVec.ofNat 8 x.val :: packed.toList) = false →
        exec (.monoStage x packed r) s = .refused (.paramsTooLong 6))) ∧
    (∀ r, s.cfg.monoCommitOp = none → exec (.monoCommit r) s = .refused .monoOpcodesUnset) ∧
    (∀ r op, s.cfg.monoCommitOp = some op → s.cfg.admits op = false →
      exec (.monoCommit r) s = .refused (.opcodeNotAdmitted op)) ∧
    (∀ m, CellMatrix.uniform m = true → CellMatrix.noBin m = false → exec (.encColGrey m) s = .refused .binaryInGreyMode)

/-- In IDLE the step of any instruction answers the state with the request latched, err, cause and rbuf none and phase
CHECK; everything else is as it was. (R32, R36, R133) -/
def Obligations.AcceptLatchesTheRequest : Prop :=
  ∀ (i : Instr) (s : State), s.phase = .idle →
    exec i s = .next { s with latch := some i, err := none, cause := none, rbuf := none, phase := .check }

/-- In CHECK, with parameters within MAX_PARAM_LEN, each of BRIGHTNESS, PATTERN, BOOTLOADER_RESET, SLEEP, ANIMATE,
PANIC, DRAW, STAGE_GREY_COL, DRAW_GREY_COL_BUFFER and SET_TEXT answers the state with its frame as the frame list and
phase OPEN; nothing else changes. (R150, R151, R152, R153, R154, R155, R156, R157, R158, R159, R142) -/
def Obligations.CommandsZeroToNineBuildTheirFrame : Prop :=
  ∀ (s : State) (p : List Byte) (r : Bool), s.phase = .check → s.cfg.fits p = true →
    exec (.brightness p r) s = .next { s with frames := [[0x32, 0xAC, 0x00] ++ p], phase := .opening } ∧
    exec (.pattern p r) s = .next { s with frames := [[0x32, 0xAC, 0x01] ++ p], phase := .opening } ∧
    exec (.bootloaderReset p r) s = .next { s with frames := [[0x32, 0xAC, 0x02] ++ p], phase := .opening } ∧
    exec (.sleep p r) s = .next { s with frames := [[0x32, 0xAC, 0x03] ++ p], phase := .opening } ∧
    exec (.animate p r) s = .next { s with frames := [[0x32, 0xAC, 0x04] ++ p], phase := .opening } ∧
    exec (.panic p r) s = .next { s with frames := [[0x32, 0xAC, 0x05] ++ p], phase := .opening } ∧
    exec (.draw p r) s = .next { s with frames := [[0x32, 0xAC, 0x06] ++ p], phase := .opening } ∧
    exec (.stageGreyCol p r) s = .next { s with frames := [[0x32, 0xAC, 0x07] ++ p], phase := .opening } ∧
    exec (.drawGreyColBuffer p r) s = .next { s with frames := [[0x32, 0xAC, 0x08] ++ p], phase := .opening } ∧
    exec (.setText p r) s = .next { s with frames := [[0x32, 0xAC, 0x09] ++ p], phase := .opening }

/-- In CHECK, with parameters within MAX_PARAM_LEN, each of START_GAME, GAME_CONTROL, SET_COLOR, DISPLAY_ON,
INVERT_SCREEN, SET_PIXEL_COLUMN, FLUSH_FRAMEBUFFER, SCREEN_SAVER, SET_FPS, SET_POWER_MODE and VERSION answers the
state with its frame as the frame list and phase OPEN; nothing else changes. (R160, R161, R162, R163, R164, R165,
R166, R167, R168, R169, R170, R142) -/
def Obligations.CommandsFromTenHexBuildTheirFrame : Prop :=
  ∀ (s : State) (p : List Byte) (r : Bool), s.phase = .check → s.cfg.fits p = true →
    exec (.startGame p r) s = .next { s with frames := [[0x32, 0xAC, 0x10] ++ p], phase := .opening } ∧
    exec (.gameControl p r) s = .next { s with frames := [[0x32, 0xAC, 0x11] ++ p], phase := .opening } ∧
    exec (.setColor p r) s = .next { s with frames := [[0x32, 0xAC, 0x13] ++ p], phase := .opening } ∧
    exec (.displayOn p r) s = .next { s with frames := [[0x32, 0xAC, 0x14] ++ p], phase := .opening } ∧
    exec (.invertScreen p r) s = .next { s with frames := [[0x32, 0xAC, 0x15] ++ p], phase := .opening } ∧
    exec (.setPixelColumn p r) s = .next { s with frames := [[0x32, 0xAC, 0x16] ++ p], phase := .opening } ∧
    exec (.flushFramebuffer p r) s = .next { s with frames := [[0x32, 0xAC, 0x17] ++ p], phase := .opening } ∧
    exec (.screenSaver p r) s = .next { s with frames := [[0x32, 0xAC, 0x19] ++ p], phase := .opening } ∧
    exec (.setFps p r) s = .next { s with frames := [[0x32, 0xAC, 0x1A] ++ p], phase := .opening } ∧
    exec (.setPowerMode p r) s = .next { s with frames := [[0x32, 0xAC, 0x1B] ++ p], phase := .opening } ∧
    exec (.version p r) s = .next { s with frames := [[0x32, 0xAC, 0x20] ++ p], phase := .opening }

/-- In CHECK: CMD and EXTRA_OPCODE with an admitted opcode and any parameters within MAX_PARAM_LEN, MONO_STAGE and
MONO_COMMIT with their opcode given and admitted, answer the state with their frame and phase OPEN; nothing else
changes. The model's own (log entry 11): MONO_STAGE and MONO_COMMIT as commands with a response flag, and EXTRA_OPCODE
with any admitted opcode, a listed one too; the stage layout is decision D13. (R130, R132, R171, R226, R142) -/
def Obligations.CmdAndParameterOpcodesBuildTheirFrame : Prop :=
  ∀ (s : State), s.phase = .check →
    (∀ op p r, s.cfg.admits op = true → s.cfg.fits p = true →
      exec (.cmd op p r) s = .next { s with frames := [[0x32, 0xAC, op] ++ p], phase := .opening } ∧
      exec (.extraOpcode op p r) s = .next { s with frames := [[0x32, 0xAC, op] ++ p], phase := .opening }) ∧
    (∀ (op : Byte) (x : Fin 9) (packed : Vector Byte 5) (r : Bool),
      s.cfg.monoStageOp = some op → s.cfg.admits op = true →
      s.cfg.fits (BitVec.ofNat 8 x.val :: packed.toList) = true →
      exec (.monoStage x packed r) s =
        .next { s with frames := [[0x32, 0xAC, op, BitVec.ofNat 8 x.val] ++ packed.toList], phase := .opening }) ∧
    (∀ (op : Byte) (r : Bool), s.cfg.monoCommitOp = some op → s.cfg.admits op = true →
      exec (.monoCommit r) s = .next { s with frames := [[0x32, 0xAC, op]], phase := .opening })

/-- In CHECK, for every 9 by 34 matrix of cells of one kind, ENC_FULL_MONO answers the state with the one frame 0x32,
0xAC, 0x06 and the 39 packed bytes, and phase OPEN; nothing else changes. (R220, R222, R142) -/
def Obligations.FullMonoBuildsOneDrawFrame : Prop :=
  ∀ (s : State) (m : CellMatrix), s.phase = .check → CellMatrix.uniform m = true → CellMatrix.hasDims m 9 34 = true →
    exec (.encFullMono m) s = .next { s with frames := [[0x32, 0xAC, 0x06] ++ pack1 m], phase := .opening } ∧
    ([0x32, 0xAC, 0x06] ++ pack1 m).length = 42

/-- For every matrix, Enc1 is the one command (0x06, Pack1(M)), and its frame is 42 bytes long. (R222) -/
def Obligations.ModeOneSendsOneDrawCommand : Prop :=
  ∀ (m : CellMatrix), enc1 m = [(0x06, pack1 m)] ∧ ∀ c ∈ enc1 m, (frameOf c.1 c.2).length = 42

/-- In CHECK, with both mode-2 opcodes given and admitted, for every 9 by 34 matrix of cells of one kind, ENC_COL_MONO
answers the state with the stage frame of each column 0 to 8 and the commit frame last, and phase OPEN; nothing else
changes (layout: decision D13). (R224, R225, R226, R142) -/
def Obligations.ColMonoBuildsNineStagesAndACommit : Prop :=
  ∀ (s : State) (m : CellMatrix) (stage commit : Byte), s.phase = .check →
    s.cfg.monoStageOp = some stage → s.cfg.monoCommitOp = some commit →
    s.cfg.admits stage = true → s.cfg.admits commit = true →
    CellMatrix.uniform m = true → CellMatrix.hasDims m 9 34 = true →
    exec (.encColMono m) s = .next { s with
      frames := ((List.range 9).map fun x => [0x32, 0xAC, stage, BitVec.ofNat 8 x] ++ packCol Cell.onSmall m x 34) ++
        [[0x32, 0xAC, commit]]
      phase := .opening }

/-- In CHECK, for every 9 by 34 matrix of GREY cells or of RGB cells, ENC_COL_GREY answers the state with the stage
frame 0x07, x and 34 intensities of each column 0 to 8 and the frame 0x08 last, and phase OPEN; nothing else changes
(index byte: decision D10). (R250, R251, R252, R142) -/
def Obligations.ColGreyBuildsNineStagesAndACommit : Prop :=
  ∀ (s : State) (m : CellMatrix), s.phase = .check → CellMatrix.uniform m = true → CellMatrix.noBin m = true →
    CellMatrix.hasDims m 9 34 = true →
    exec (.encColGrey m) s = .next { s with
      frames := ((List.range 9).map fun x => [0x32, 0xAC, 0x07, BitVec.ofNat 8 x] ++ greyCol m x) ++
        [[0x32, 0xAC, 0x08]]
      phase := .opening }

/-- In CHECK, for every 300 by 400 matrix of cells of one kind, ENC_WIDE_MONO answers the state with the stage frame
0x16, the little-endian column index and the packed column of each column 0 to 299 and the frame 0x17 last, and phase
OPEN; nothing else changes. It rests on the mode-4 polarity of R194, which R275 keeps and marks as an open question
(I10; log entry 22). (R270, R271, R272, R273, R142) -/
def Obligations.WideMonoBuildsThreeHundredStagesAndAFlush : Prop :=
  ∀ (s : State) (m : CellMatrix), s.phase = .check → CellMatrix.uniform m = true → CellMatrix.hasDims m 300 400 = true →
    exec (.encWideMono m) s = .next { s with
      frames := ((List.range 300).map fun x =>
          [0x32, 0xAC, 0x16, BitVec.ofNat 8 (x % 256), BitVec.ofNat 8 (x / 256)] ++ packCol Cell.onWide m x 400) ++
        [[0x32, 0xAC, 0x17]]
      phase := .opening }

/-- In CHECK, for an encoder request of cells of one kind that is not refused: where the matrix is not exactly 9
columns of 34 cells (modes 1 to 3) or 300 columns of 400 cells (mode 4), the step completes with (DIMENSION_ERROR,
none, none); the transport log is as before. A matrix has the geometry exactly when its width and every column's
length match. (R301) -/
def Obligations.WrongGeometryCompletesWithDimensionError : Prop :=
  (∀ (s : State) (m : CellMatrix), s.phase = .check → CellMatrix.uniform m = true →
    (CellMatrix.hasDims m 9 34 = false →
      exec (.encFullMono m) s = .next (dimensionErrorState s) ∧
      (s.cfg.monoConfigured = true → exec (.encColMono m) s = .next (dimensionErrorState s)) ∧
      (CellMatrix.noBin m = true → exec (.encColGrey m) s = .next (dimensionErrorState s))) ∧
    (CellMatrix.hasDims m 300 400 = false → exec (.encWideMono m) s = .next (dimensionErrorState s))) ∧
  (∀ (m : CellMatrix) (w h : Nat), CellMatrix.hasDims m w h = true ↔ m.length = w ∧ ∀ col ∈ m, col.length = h)

/-- In OPEN, for every instruction: where the open succeeds the step answers the state with session true, fidx 0 and
phase WRITE; where it fails with cause c, with err TRANSPORT_OPEN, cause c, the completion (TRANSPORT_OPEN, c, none),
no request latched and phase IDLE. The call is logged and its answer used up; nothing else changes. (R134) -/
def Obligations.OpenStartsTheSessionOrCompletes : Prop :=
  ∀ (i : Instr) (s : State), s.phase = .opening →
    (∀ b, s.reply = .ok b →
      exec i s = .next { s with
        replies := s.replies.tail, log := s.log ++ [(.openSession, .ok b)]
        session := true, fidx := 0, phase := .write }) ∧
    (∀ c n, s.reply = .fail c n →
      exec i s = .next { s with
        replies := s.replies.tail, log := s.log ++ [(.openSession, .fail c n)]
        err := some .transportOpen, cause := some c
        completions := s.completions ++ [⟨.transportOpen, some c, none⟩], latch := none, phase := .idle })

/-- In WRITE, for every instruction: with fidx equal to the number of frames the phase becomes READ if the instruction
asks for a response and CLOSE if not; else frame fidx is written in one call, and success advances fidx by one,
failure records TRANSPORT_WRITE with its cause and goes to CLOSE; nothing else changes (one call a frame: decision
D16; the response flag: D15). (R135) -/
def Obligations.WriteSendsTheNextFrame : Prop :=
  ∀ (i : Instr) (s : State), s.phase = .write →
    (s.fidx = s.frames.length →
      exec i s = .next { s with phase := if i.resp s.cfg then .read else .close }) ∧
    (∀ f, s.fidx ≠ s.frames.length → s.frames[s.fidx]? = some f →
      (∀ b, s.reply = .ok b →
        exec i s = .next { s with
          replies := s.replies.tail, log := s.log ++ [(.write f, .ok b)], fidx := s.fidx + 1 }) ∧
      (∀ c n, s.reply = .fail c n →
        exec i s = .next { s with
          replies := s.replies.tail, log := s.log ++ [(.write f, .fail c n)]
          err := some .transportWrite, cause := some c, phase := .close }))

/-- In READ, for every instruction: 32 bytes are kept in rbuf; fewer record TRANSPORT_SHORT_READ and keep none; a
failure records TRANSPORT_READ with its cause; the phase becomes CLOSE and nothing else changes. More than 32 bytes
has no move (decision D27). (R136, R37) -/
def Obligations.ReadKeepsExactlyThirtyTwoBytes : Prop :=
  ∀ (i : Instr) (s : State), s.phase = .read →
    (∀ b, s.reply = .ok b → b.length = 32 →
      exec i s = .next { s with
        replies := s.replies.tail, log := s.log ++ [(.read 32, .ok b)], rbuf := some b, phase := .close }) ∧
    (∀ b, s.reply = .ok b → b.length < 32 →
      exec i s = .next { s with
        replies := s.replies.tail, log := s.log ++ [(.read 32, .ok b)]
        err := some .transportShortRead, phase := .close }) ∧
    (∀ b, s.reply = .ok b → 32 < b.length → exec i s = .fault (.overlongRead b.length)) ∧
    (∀ c n, s.reply = .fail c n →
      exec i s = .next { s with
        replies := s.replies.tail, log := s.log ++ [(.read 32, .fail c n)]
        err := some .transportRead, cause := some c, phase := .close })

/-- In CLOSE, for every instruction: without an error before, a successful close completes (OK, none, the response if
asked for) and a failed one records TRANSPORT_CLOSE with its cause and completes with it; with an error before, the
close's answer changes nothing and the completion carries that error, with the cause where it is a transport code. The
session ends, no request is latched, phase IDLE (decision D17). (R137, R138, R300) -/
def Obligations.CloseEndsTheSessionAndCompletes : Prop :=
  ∀ (i : Instr) (s : State), s.phase = .close →
    (∀ b, s.err = none → s.reply = .ok b →
      exec i s = .next { s with
        replies := s.replies.tail, log := s.log ++ [(.close, .ok b)], session := false
        completions := s.completions ++ [⟨.ok, none, if i.resp s.cfg then s.rbuf else none⟩]
        latch := none, phase := .idle }) ∧
    (∀ c n, s.err = none → s.reply = .fail c n →
      exec i s = .next { s with
        replies := s.replies.tail, log := s.log ++ [(.close, .fail c n)], session := false
        err := some .transportClose, cause := some c
        completions := s.completions ++ [⟨.transportClose, some c, none⟩], latch := none, phase := .idle }) ∧
    (∀ code, s.err = some code → code ≠ .ok → s.reply ≠ .never →
      exec i s = .next { s with
        replies := s.replies.tail, log := s.log ++ [(.close, s.reply)], session := false
        completions := s.completions ++ [⟨code, if code.isTransport then s.cause else none, none⟩]
        latch := none, phase := .idle })

/-- From any state of the invariant in READ: where the read returns fewer than 32 bytes, zero included, and the close
returns, two steps complete the request with (TRANSPORT_SHORT_READ, none, none), a failing close included (decision
D17), and rbuf holds nothing; the code is numbered 5 (decision D18). (R136, R137, R138, R300, R303, R306) -/
def Obligations.ShortReadIsReportedAndItsBytesDropped : Prop :=
  (∀ (s : State) (b : List Byte) (a : Reply) (rest : List Reply), s.Inv → s.resetLine = false → s.phase = .read →
    s.replies = .ok b :: a :: rest → b.length < 32 → a ≠ .never →
    ∃ t, runSteps 2 s = .next t ∧ t.phase = .idle ∧ t.rbuf = none ∧
      t.completions = s.completions ++ [⟨.transportShortRead, none, none⟩]) ∧
  Code.transportShortRead.number = 5

/-- For every instruction, where the transport never answers the call its phase makes, the step is stuck, naming the
call (decision D34). (R318) -/
def Obligations.ACallThatNeverReturnsIsStuck : Prop :=
  ∀ (i : Instr) (s : State), s.reply = .never →
    (s.phase = .opening → exec i s = .fault (.neverReturns .openSession)) ∧
    (∀ f, s.phase = .write → s.fidx ≠ s.frames.length → s.frames[s.fidx]? = some f →
      exec i s = .fault (.neverReturns (.write f))) ∧
    (s.phase = .read → exec i s = .fault (.neverReturns (.read 32))) ∧
    (s.phase = .close → exec i s = .fault (.neverReturns .close))

/-- Where the step of any instruction answers a next state: the parameters, the held requests and the reset line are
unchanged in every phase; and in each phase every element that phase does not write (accept: latch, err, cause, rbuf;
CHECK: frames or the completion; OPEN: session, fidx or the completion; WRITE: fidx or the error; READ: rbuf or the
error; CLOSE: session, error, completion) is unchanged. (R30, R32, R33, R34, R35, R36, R37, R41) -/
def Obligations.EachPhaseLeavesTheRestUnchanged : Prop :=
  ∀ (i : Instr) (s t : State), exec i s = .next t →
    (t.cfg = s.cfg ∧ t.waiting = s.waiting ∧ t.resetLine = s.resetLine) ∧
    (s.phase = .idle → t.frames = s.frames ∧ t.fidx = s.fidx ∧ t.session = s.session ∧ t.replies = s.replies ∧
      t.log = s.log ∧ t.completions = s.completions) ∧
    (s.phase = .check → t.fidx = s.fidx ∧ t.session = s.session ∧ t.cause = s.cause ∧ t.rbuf = s.rbuf ∧
      t.replies = s.replies ∧ t.log = s.log ∧
      (t.phase = .opening → t.latch = s.latch ∧ t.err = s.err ∧ t.completions = s.completions) ∧
      (t.phase = .idle → t.frames = s.frames)) ∧
    (s.phase = .opening → t.frames = s.frames ∧ t.rbuf = s.rbuf ∧
      (t.phase = .write → t.latch = s.latch ∧ t.err = s.err ∧ t.cause = s.cause ∧ t.completions = s.completions) ∧
      (t.phase = .idle → t.fidx = s.fidx ∧ t.session = s.session)) ∧
    (s.phase = .write → t.latch = s.latch ∧ t.frames = s.frames ∧ t.session = s.session ∧ t.rbuf = s.rbuf ∧
      t.completions = s.completions ∧ (t.phase ≠ .write → t.fidx = s.fidx) ∧
      (t.phase ≠ .close → t.err = s.err ∧ t.cause = s.cause)) ∧
    (s.phase = .read → t.latch = s.latch ∧ t.frames = s.frames ∧ t.fidx = s.fidx ∧ t.session = s.session ∧
      t.completions = s.completions) ∧
    (s.phase = .close → t.frames = s.frames ∧ t.fidx = s.fidx ∧ t.rbuf = s.rbuf ∧
      (s.err ≠ none → t.err = s.err ∧ t.cause = s.cause))

/-- Where a step answers a next state, the call log and the completions of before are prefixes of those after, each at
most one longer, and the parameters are the same. (R139, R351, R39) -/
def Obligations.ObservationsOnlyGrow : Prop :=
  ∀ (s t : State), step s = .next t →
    t.cfg = s.cfg ∧
    (∃ calls, t.log = s.log ++ calls ∧ calls.length ≤ 1) ∧
    (∃ given, t.completions = s.completions ++ given ∧ given.length ≤ 1)

/-- Where a step outside IDLE answers a next state, it gives one completion if that state is IDLE and none if it is
not; a step in IDLE gives none. (R138, R300) -/
def Obligations.OneCompletionWhenARequestEnds : Prop :=
  ∀ (s t : State), step s = .next t →
    (s.phase = .idle → t.completions = s.completions) ∧
    (s.phase ≠ .idle → t.phase ≠ .idle → t.completions = s.completions) ∧
    (s.phase ≠ .idle → t.phase = .idle → t.latch = none ∧ ∃ c, t.completions = s.completions ++ [c])

/-- From every state of the invariant (request latched exactly outside IDLE; session open exactly in WRITE, READ,
CLOSE; frames those of the latched well-formed request from OPEN on; fidx within them in a session; a response of 32
bytes only; error, cause and response as R36 and R37 say) a step that answers a next state answers one of the
invariant. (R31, R32, R33, R34, R35, R36, R37) -/
def Obligations.StepKeepsTheSessionInvariant : Prop :=
  ∀ (s t : State), s.Inv → step s = .next t → t.Inv

/-- The reset state meets the session invariant (frames and fidx are the model's choice there, log entry 3; the
invariant does not rest on them). (R43, R340) -/
def Obligations.ResetMeetsTheSessionInvariant : Prop :=
  State.reset.Inv

/-- From every state of the invariant whose log ends with the session's open and the successful writes of its frames
up to fidx in list order (in WRITE), of all frames (in READ), and of all frames and then the read that gave the
response held, if any (in CLOSE without an error), a step answers such a state. (R74, R75, R139, R140) -/
def Obligations.StepKeepsTheCallOrder : Prop :=
  ∀ (s t : State), s.Inv → s.LogInOrder → step s = .next t → t.LogInOrder

/-- From IDLE with the request chosen, well formed and of the right geometry, and the transport answering ok to the
open, every write, the read (32 bytes, if a response is asked for) and the close: after the accept, the check, the
open, one write a frame, the end of writing, the read and the close the machine is IDLE with the completion (OK, none,
response), the calls of the one session logged in order, and the peripheral has received exactly the bytes of the
frames. Holds for every instruction (one session a request: decision D14; an encoder request reads nothing: D15; one
write a frame: D16). (R74, R130, R133, R138, R140, R142) -/
def Obligations.AWorkingTransportServesEveryRequest : Prop :=
  ∀ (s : State) (i : Instr) (queues : List (List Instr)) (response : Option (List Byte)) (rest : List Reply),
    s.phase = .idle → s.resetLine = false →
    pick (Config.schedule s.completions.length) s.waiting = some (i, queues) →
    i.wellFormed s.cfg = true → i.dimsOk s.cfg = true →
    response.isSome = i.resp s.cfg → (∀ b, response = some b → b.length = 32) →
    s.replies = okReplies (i.frames s.cfg).length response ++ rest →
    ∃ t, runSteps ((i.frames s.cfg).length + (if i.resp s.cfg then 6 else 5)) s = .next t ∧
      t.phase = .idle ∧ t.latch = none ∧ t.session = false ∧ t.err = none ∧ t.rbuf = response ∧
      t.frames = i.frames s.cfg ∧ t.fidx = (i.frames s.cfg).length ∧ t.waiting = queues ∧ t.replies = rest ∧
      t.completions = s.completions ++ [⟨.ok, none, response⟩] ∧
      t.log = s.log ++ okCalls (i.frames s.cfg) response ∧
      t.wire = s.wire ++ (i.frames s.cfg).flatten

/-- From IDLE with the request chosen, well formed and of the right geometry, where the open and the first k writes
succeed and the write of frame k fails with cause c: the close follows at once, whatever it answers, the completion is
(TRANSPORT_WRITE, c, none), and the peripheral has received frames 0 to k-1 whole and a prefix of frame k. Holds for
every instruction (decisions D16, D17, D35). (R135, R137, R139, R306, R307) -/
def Obligations.AFailedWriteEndsTheRequest : Prop :=
  ∀ (s : State) (i : Instr) (queues : List (List Instr)) (k : Nat) (f : Frame) (c : Cause) (n : Nat) (a : Reply)
    (rest : List Reply),
    s.phase = .idle → s.resetLine = false →
    pick (Config.schedule s.completions.length) s.waiting = some (i, queues) →
    i.wellFormed s.cfg = true → i.dimsOk s.cfg = true →
    (i.frames s.cfg)[k]? = some f → a ≠ .never →
    s.replies = List.replicate (k + 1) (.ok []) ++ .fail c n :: a :: rest →
    ∃ t, runSteps (k + 5) s = .next t ∧
      t.phase = .idle ∧ t.latch = none ∧ t.session = false ∧ t.fidx = k ∧ t.waiting = queues ∧ t.replies = rest ∧
      t.err = some .transportWrite ∧ t.cause = some c ∧
      t.completions = s.completions ++ [⟨.transportWrite, some c, none⟩] ∧
      t.log = s.log ++ (.openSession, .ok []) :: ((i.frames s.cfg).take k).map (fun g => writeOk g []) ++
        [(.write f, .fail c n), (.close, a)] ∧
      t.wire = s.wire ++ ((i.frames s.cfg).take k).flatten ++ f.take n

/-- Two states that agree on the ports, the parameters and the request, on the frames from OPEN on, on fidx in a
session and on the error, cause and response outside IDLE have the same outcome, and next states that agree again: no
element is read before the request writes it, so the model's values for frames and fidx at reset (log entry 3) are
never read. (R41, R43) -/
def Obligations.NothingStaleIsRead : Prop :=
  ∀ (s t : State), s.AgreeOnLive t → SameOutcome (step s) (step t)

/-- Where no reset is applied, the phase is not IDLE and i is latched, the step is exec of i at that state. (R32,
R133) -/
def Obligations.StepContinuesTheLatchedRequest : Prop :=
  ∀ (s : State) (i : Instr), s.resetLine = false → s.phase ≠ .idle → s.latch = some i → step s = exec i s

/-- Where no reset is applied and the phase is IDLE: with i chosen among the waiting requests the step is exec of i
with i taken off its queue, which latches it; with nothing waiting the step leaves the state as it is (the model's
choice, log entry 7; the queues: log entry 8). (R73, R133, R315) -/
def Obligations.StepAcceptsTheChosenRequest : Prop :=
  ∀ (s : State), s.resetLine = false → s.phase = .idle →
    (∀ i queues, pick (Config.schedule s.completions.length) s.waiting = some (i, queues) →
      step s = exec i { s with waiting := queues } ∧
      ∃ t, step s = .next t ∧ t.latch = some i ∧ t.phase = .check ∧ t.waiting = queues) ∧
    ((∀ q ∈ s.waiting, q = []) → step s = .next s)

/-- Where the decoder reads i from a word, the step of the state with that word placed on the request port is exec of
i, which accepts it as R133 says: i is latched, in CHECK, and nothing waits behind it. Placing a word is the model's
own device (log entry 14), and so are the absent response flag and the numbering of the bytes after the header (log
entry 12). (R94, R133) -/
def Obligations.StepRunsThePlacedWord : Prop :=
  ∀ (s : State) (nbits w : Nat) (i : Instr), decodeTableWord nbits w = some i →
    step (s.withFetchWord nbits w) =
      exec i { s with phase := .idle, latch := none, session := false, resetLine := false, waiting := [[]] } ∧
    ∃ t, step (s.withFetchWord nbits w) = .next t ∧ t.latch = some i ∧ t.phase = .check ∧ t.waiting = [[]]

/-- For every choice: a chosen request is the first of one requester's queue, and the queues left are the same but for
that request; where any requester waits, one is chosen. R315 leaves the order open; that each requester's requests are
served in the order it presented them is the model's choice (log entry 8). (R73, R315) -/
def Obligations.TheChoiceTakesOneWaitingRequest : Prop :=
  (∀ (k : Nat) (queues left : List (List Instr)) (i : Instr), pick k queues = some (i, left) →
    ∃ pre q post, queues = pre ++ (i :: q) :: post ∧ left = pre ++ q :: post) ∧
  (∀ (k : Nat) (queues : List (List Instr)), pick k queues = none ↔ ∀ q ∈ queues, q = [])

/-- For every requester that waits there is a choice that serves it next (one queue for each requester is the model's
choice, log entry 8). (R315) -/
def Obligations.EveryWaitingRequesterCanBeChosen : Prop :=
  ∀ (pre post : List (List Instr)) (i : Instr) (q : List Instr),
    ∃ k, pick k (pre ++ (i :: q) :: post) = some (i, pre ++ q :: post)

/-- Where a step outside IDLE answers a next state, the same step with one more request presented by any requester
answers that state with the request held (decision D36), behind the others of its requester (the model's queues, log
entry 8). (R73, R343) -/
def Obligations.ARequestPresentedWhileBusyIsHeld : Prop :=
  ∀ (s t : State) (n : Nat) (j : Instr), s.resetLine = false → s.phase ≠ .idle → step s = .next t →
    step (s.present n j) = .next (t.present n j)

/-- After reset: phase IDLE, no request latched, no session, err, cause and rbuf none, nothing waiting, no call made,
no completion given (decision D23; frames, fidx and the parameters are the model's, log entries 2 and 3, and are not
stated). (R43, R340, R341) -/
def Obligations.ResetLeavesTheResetValues : Prop :=
  State.reset.phase = .idle ∧ State.reset.latch = none ∧ State.reset.session = false ∧ State.reset.err = none ∧
  State.reset.cause = none ∧ State.reset.rbuf = none ∧ State.reset.waiting = [] ∧ State.reset.log = [] ∧
  State.reset.completions = []

/-- Where a requester applies reset: in IDLE the step answers the state with the PFE elements at the reset values and
the parameters, held requests, transport answers, call log and completions kept; in every other phase it is refused
(decision D23; what is kept is the model's choice, log entry 9). (R340, R43, R350) -/
def Obligations.ResetIsTakenInIdleOnly : Prop :=
  ∀ (s : State), s.resetLine = true →
    (s.phase = .idle → ∃ t, step s = .next t ∧ t.phase = .idle ∧ t.latch = none ∧ t.session = false ∧
      t.err = none ∧ t.cause = none ∧ t.rbuf = none ∧ t.resetLine = false ∧ t.cfg = s.cfg ∧
      t.waiting = s.waiting ∧ t.replies = s.replies ∧ t.log = s.log ∧ t.completions = s.completions) ∧
    (s.phase ≠ .idle → step s = .refused .resetOutsideIdle)

/-- For a GREY or RGB cell of average a: on the small display it is on exactly when a > 127, on the wide one exactly
when a < 127 (exact rationals, decision D4), so never both, and neither exactly when a = 127. A BIN cell is on as
given on both (decision D8). The wide test's polarity is the one R275 keeps and marks as an open question (I10; log
entry 22). (R192, R193, R194) -/
def Obligations.OnTestsCompareTheExactAverage : Prop :=
  (∀ (c : Cell) (a : ℚ), c.avg? = some a →
    (c.onSmall = true ↔ 127 < a) ∧ (c.onWide = true ↔ a < 127) ∧
    (c.onSmall = false ∧ c.onWide = false ↔ a = 127)) ∧
  (∀ (b : Bool), (Cell.bin b).onSmall = b ∧ (Cell.bin b).onWide = b ∧ (Cell.bin b).avg? = none)

/-- For a GREY or RGB cell of average a: the intensity byte is the floored piecewise curve of a, which lies in 0 to
255, so the byte holds it exactly (bands and rounding: decisions D5 and D6). A BIN cell has no intensity. (R192, R195,
R196, R197, R198) -/
def Obligations.GreyscaleIsTheFlooredRationalCurve : Prop :=
  (∀ (c : Cell) (a : ℚ), c.avg? = some a →
    ∃ v, c.grey? = some v ∧ v.toNat = curveOfAvg a) ∧
  (∀ (b : Bool), (Cell.bin b).grey? = none)

/-- For sums up to 765 the outputs of the five bands lie in 0..99, 50..100, 50..75, 120..160 and 200..255; the
source's vectors 220, 180, 120, 60, 20 give 220, 144, 60, 60, 40; and 50 gives less than 49. (R196, R197) -/
def Obligations.GreyscaleCurveBandsAndVectors : Prop :=
  (∀ (s : Nat), s ≤ 765 →
    (s < 150 → curve s ≤ 99) ∧
    (150 ≤ s → s ≤ 300 → 50 ≤ curve s ∧ curve s ≤ 100) ∧
    (300 < s → s ≤ 450 → 50 ≤ curve s ∧ curve s ≤ 75) ∧
    (450 < s → s ≤ 600 → 120 ≤ curve s ∧ curve s ≤ 160) ∧
    (600 < s → 200 ≤ curve s ∧ curve s ≤ 255)) ∧
  (Cell.grey 220).grey? = some 220 ∧ (Cell.grey 180).grey? = some 144 ∧ (Cell.grey 120).grey? = some 60 ∧
  (Cell.grey 60).grey? = some 60 ∧ (Cell.grey 20).grey? = some 40 ∧
  (Cell.grey 49).grey? = some 98 ∧ (Cell.grey 50).grey? = some 50

/-- For every matrix: the payload has 39 bytes; for each x below 9 and y below 34 bit x + 9y (bit i mod 8 of byte i
div 8, weight 2^b) is set exactly when cell (x, y), element y of column x of the matrix, is on; bits 306 to 311 are 0
(decisions D2, D3). (R68, R221) -/
def Obligations.FullFrameBitIsTheCellsOnTest : Prop :=
  ∀ (m : CellMatrix), (pack1 m).length = 39 ∧
    (∀ x y, x < 9 → y < 34 → bitAt (pack1 m) (x + 9 * y) = m.onAt Cell.onSmall x y) ∧
    (∀ x y col c, x < 9 → y < 34 → m[x]? = some col → col[y]? = some c →
      bitAt (pack1 m) (x + 9 * y) = c.onSmall) ∧
    (∀ j, 306 ≤ j → j < 312 → bitAt (pack1 m) j = false)

/-- For every 9 by 34 matrix, unpacking its packed payload gives the matrix of BIN cells of its on tests; for a matrix
of BIN cells that is the matrix itself. (R221, R223) -/
def Obligations.UnpackingTheFullFrameGivesTheMatrix : Prop :=
  (∀ (m : CellMatrix), m.hasDims 9 34 = true →
    unpack1 (pack1 m) = m.map fun col => col.map fun c => Cell.bin c.onSmall) ∧
  (∀ (m : CellMatrix), m.hasDims 9 34 = true → m.allOfKind .bin = true → unpack1 (pack1 m) = m)

/-- For every on test, matrix, column and height: the packed column has the height over 8, rounded up, in bytes; bit y
is set exactly when the cell in row y is on; every bit from the height on is 0 (decisions D2, D3); the cell in column
x and row y is element y of element x of the matrix. (R225, R271) -/
def Obligations.ColumnBitIsTheCellsOnTest : Prop :=
  ∀ (on : Cell → Bool) (m : CellMatrix) (x h : Nat), (packCol on m x h).length = (h + 7) / 8 ∧
    (∀ y, y < h → bitAt (packCol on m x h) y = m.onAt on x y) ∧
    (∀ y col c, y < h → m[x]? = some col → col[y]? = some c → bitAt (packCol on m x h) y = on c) ∧
    (∀ j, h ≤ j → bitAt (packCol on m x h) j = false)

/-- For every column 0 to 299 the index field is [x mod 256, x div 256]: the two bytes, low first, give x back and the
high byte is 0 or 1; the rule's four examples hold. (R272) -/
def Obligations.ColumnIndexIsLittleEndian : Prop :=
  (∀ x, x ≤ 299 → ∃ lo hi : Byte, idx16 x = [lo, hi] ∧ lo.toNat = x % 256 ∧ hi.toNat = x / 256 ∧
    lo.toNat + 256 * hi.toNat = x ∧ (hi = 0 ∨ hi = 1)) ∧
  idx16 0 = [0x00, 0x00] ∧ idx16 255 = [0xFF, 0x00] ∧ idx16 256 = [0x00, 0x01] ∧ idx16 299 = [0x2B, 0x01]

/-- A command has 1 frame of 3 + |p| bytes; mode 1 has 1 frame, 42 bytes; mode 2 with its opcodes given has 10 frames,
84 bytes; mode 3 for a 9 by 34 matrix without BIN cells has 10 frames, 345 bytes; mode 4 has 301 frames, 16503 bytes.
(R33, R348) -/
def Obligations.FrameAndByteCounts : Prop :=
  ∀ (cfg : Config) (m : CellMatrix) (op : Byte) (p : List Byte) (r : Bool),
    (((Request.cmd op p r).frames cfg).length = 1 ∧
      (((Request.cmd op p r).frames cfg).map List.length).sum = 3 + p.length) ∧
    (((Request.encFullMono m).frames cfg).length = 1 ∧
      (((Request.encFullMono m).frames cfg).map List.length).sum = 42) ∧
    (cfg.monoConfigured = true → ((Request.encColMono m).frames cfg).length = 10 ∧
      (((Request.encColMono m).frames cfg).map List.length).sum = 84) ∧
    (((Request.encColGrey m).frames cfg).length = 10 ∧
      (m.hasDims 9 34 = true → m.noBin = true →
        (((Request.encColGrey m).frames cfg).map List.length).sum = 345)) ∧
    (((Request.encWideMono m).frames cfg).length = 301 ∧
      (((Request.encWideMono m).frames cfg).map List.length).sum = 16503)

/-- For each row of the opcode map, outside IDLE the step of the named instruction is the step of CMD with that
opcode, the same parameters and response flag, whatever comes of it (the notation is the spec's own, decision D28).
(R95, R101, R130) -/
def Obligations.AListedOpcodeServesAsItsCmd : Prop :=
  ∀ row ∈ opcodeTable, ∀ (p : List Byte) (r : Bool) (s : State), s.phase ≠ .idle →
    exec (row.build p r) s = exec (.cmd row.opcode p r) s

/-- For every 9 by 34 matrix without BIN cells and every column x below 9: GreyCol has 34 bytes, and for each y below
34 byte y is the intensity of the cell in column x and row y, element y of element x of the matrix. What the intensity
is: GreyscaleIsTheFlooredRationalCurve (decisions D5, D6). (R11, R251) -/
def Obligations.GreyColumnByteIsTheCellsIntensity : Prop :=
  ∀ (m : CellMatrix) (x : Nat), m.hasDims 9 34 = true → m.noBin = true → x < 9 →
    (greyCol m x).length = 34 ∧
    (∀ y, y < 34 → (greyCol m x)[y]? = (m.cell? x y).bind Cell.grey?) ∧
    (∀ y, y < 34 → ∃ col c v, m[x]? = some col ∧ col[y]? = some c ∧ c.grey? = some v ∧ (greyCol m x)[y]? = some v)
end

