-- ==== Sys2Proof/Laws/State.lean ====
section
/-! SUPPORT. One lemma per field per update of the state, each true by unfolding the update. -/

namespace Sys2Proof.Machine

@[simp] theorem State.accept_cfg (i : Instr) (s : State) : (s.accept i).cfg = s.cfg := rfl
@[simp] theorem State.accept_phase (i : Instr) (s : State) : (s.accept i).phase = .check := rfl
@[simp] theorem State.accept_latch (i : Instr) (s : State) : (s.accept i).latch = some i := rfl
@[simp] theorem State.accept_frames (i : Instr) (s : State) : (s.accept i).frames = s.frames := rfl
@[simp] theorem State.accept_fidx (i : Instr) (s : State) : (s.accept i).fidx = s.fidx := rfl
@[simp] theorem State.accept_session (i : Instr) (s : State) : (s.accept i).session = s.session := rfl
@[simp] theorem State.accept_err (i : Instr) (s : State) : (s.accept i).err = none := rfl
@[simp] theorem State.accept_cause (i : Instr) (s : State) : (s.accept i).cause = none := rfl
@[simp] theorem State.accept_rbuf (i : Instr) (s : State) : (s.accept i).rbuf = none := rfl
@[simp] theorem State.accept_waiting (i : Instr) (s : State) : (s.accept i).waiting = s.waiting := rfl
@[simp] theorem State.accept_resetLine (i : Instr) (s : State) : (s.accept i).resetLine = s.resetLine := rfl
@[simp] theorem State.accept_replies (i : Instr) (s : State) : (s.accept i).replies = s.replies := rfl
@[simp] theorem State.accept_log (i : Instr) (s : State) : (s.accept i).log = s.log := rfl
@[simp] theorem State.accept_completions (i : Instr) (s : State) : (s.accept i).completions = s.completions := rfl

@[simp] theorem State.loadFrames_cfg (fs : List Frame) (s : State) : (s.loadFrames fs).cfg = s.cfg := rfl
@[simp] theorem State.loadFrames_phase (fs : List Frame) (s : State) : (s.loadFrames fs).phase = .opening := rfl
@[simp] theorem State.loadFrames_latch (fs : List Frame) (s : State) : (s.loadFrames fs).latch = s.latch := rfl
@[simp] theorem State.loadFrames_frames (fs : List Frame) (s : State) : (s.loadFrames fs).frames = fs := rfl
@[simp] theorem State.loadFrames_fidx (fs : List Frame) (s : State) : (s.loadFrames fs).fidx = s.fidx := rfl
@[simp] theorem State.loadFrames_session (fs : List Frame) (s : State) : (s.loadFrames fs).session = s.session := rfl
@[simp] theorem State.loadFrames_err (fs : List Frame) (s : State) : (s.loadFrames fs).err = s.err := rfl
@[simp] theorem State.loadFrames_cause (fs : List Frame) (s : State) : (s.loadFrames fs).cause = s.cause := rfl
@[simp] theorem State.loadFrames_rbuf (fs : List Frame) (s : State) : (s.loadFrames fs).rbuf = s.rbuf := rfl
@[simp] theorem State.loadFrames_waiting (fs : List Frame) (s : State) : (s.loadFrames fs).waiting = s.waiting := rfl
@[simp] theorem State.loadFrames_resetLine (fs : List Frame) (s : State) : (s.loadFrames fs).resetLine = s.resetLine := rfl
@[simp] theorem State.loadFrames_replies (fs : List Frame) (s : State) : (s.loadFrames fs).replies = s.replies := rfl
@[simp] theorem State.loadFrames_log (fs : List Frame) (s : State) : (s.loadFrames fs).log = s.log := rfl
@[simp] theorem State.loadFrames_completions (fs : List Frame) (s : State) : (s.loadFrames fs).completions = s.completions := rfl

@[simp] theorem State.goto_cfg (p : Phase) (s : State) : (s.goto p).cfg = s.cfg := rfl
@[simp] theorem State.goto_phase (p : Phase) (s : State) : (s.goto p).phase = p := rfl
@[simp] theorem State.goto_latch (p : Phase) (s : State) : (s.goto p).latch = s.latch := rfl
@[simp] theorem State.goto_frames (p : Phase) (s : State) : (s.goto p).frames = s.frames := rfl
@[simp] theorem State.goto_fidx (p : Phase) (s : State) : (s.goto p).fidx = s.fidx := rfl
@[simp] theorem State.goto_session (p : Phase) (s : State) : (s.goto p).session = s.session := rfl
@[simp] theorem State.goto_err (p : Phase) (s : State) : (s.goto p).err = s.err := rfl
@[simp] theorem State.goto_cause (p : Phase) (s : State) : (s.goto p).cause = s.cause := rfl
@[simp] theorem State.goto_rbuf (p : Phase) (s : State) : (s.goto p).rbuf = s.rbuf := rfl
@[simp] theorem State.goto_waiting (p : Phase) (s : State) : (s.goto p).waiting = s.waiting := rfl
@[simp] theorem State.goto_resetLine (p : Phase) (s : State) : (s.goto p).resetLine = s.resetLine := rfl
@[simp] theorem State.goto_replies (p : Phase) (s : State) : (s.goto p).replies = s.replies := rfl
@[simp] theorem State.goto_log (p : Phase) (s : State) : (s.goto p).log = s.log := rfl
@[simp] theorem State.goto_completions (p : Phase) (s : State) : (s.goto p).completions = s.completions := rfl

@[simp] theorem State.opened_cfg (s : State) : (s.opened).cfg = s.cfg := rfl
@[simp] theorem State.opened_phase (s : State) : (s.opened).phase = .write := rfl
@[simp] theorem State.opened_latch (s : State) : (s.opened).latch = s.latch := rfl
@[simp] theorem State.opened_frames (s : State) : (s.opened).frames = s.frames := rfl
@[simp] theorem State.opened_fidx (s : State) : (s.opened).fidx = 0 := rfl
@[simp] theorem State.opened_session (s : State) : (s.opened).session = true := rfl
@[simp] theorem State.opened_err (s : State) : (s.opened).err = s.err := rfl
@[simp] theorem State.opened_cause (s : State) : (s.opened).cause = s.cause := rfl
@[simp] theorem State.opened_rbuf (s : State) : (s.opened).rbuf = s.rbuf := rfl
@[simp] theorem State.opened_waiting (s : State) : (s.opened).waiting = s.waiting := rfl
@[simp] theorem State.opened_resetLine (s : State) : (s.opened).resetLine = s.resetLine := rfl
@[simp] theorem State.opened_replies (s : State) : (s.opened).replies = s.replies := rfl
@[simp] theorem State.opened_log (s : State) : (s.opened).log = s.log := rfl
@[simp] theorem State.opened_completions (s : State) : (s.opened).completions = s.completions := rfl

@[simp] theorem State.advance_cfg (s : State) : (s.advance).cfg = s.cfg := rfl
@[simp] theorem State.advance_phase (s : State) : (s.advance).phase = s.phase := rfl
@[simp] theorem State.advance_latch (s : State) : (s.advance).latch = s.latch := rfl
@[simp] theorem State.advance_frames (s : State) : (s.advance).frames = s.frames := rfl
@[simp] theorem State.advance_fidx (s : State) : (s.advance).fidx = s.fidx + 1 := rfl
@[simp] theorem State.advance_session (s : State) : (s.advance).session = s.session := rfl
@[simp] theorem State.advance_err (s : State) : (s.advance).err = s.err := rfl
@[simp] theorem State.advance_cause (s : State) : (s.advance).cause = s.cause := rfl
@[simp] theorem State.advance_rbuf (s : State) : (s.advance).rbuf = s.rbuf := rfl
@[simp] theorem State.advance_waiting (s : State) : (s.advance).waiting = s.waiting := rfl
@[simp] theorem State.advance_resetLine (s : State) : (s.advance).resetLine = s.resetLine := rfl
@[simp] theorem State.advance_replies (s : State) : (s.advance).replies = s.replies := rfl
@[simp] theorem State.advance_log (s : State) : (s.advance).log = s.log := rfl
@[simp] theorem State.advance_completions (s : State) : (s.advance).completions = s.completions := rfl

@[simp] theorem State.receive_cfg (b : List Byte) (s : State) : (s.receive b).cfg = s.cfg := rfl
@[simp] theorem State.receive_phase (b : List Byte) (s : State) : (s.receive b).phase = s.phase := rfl
@[simp] theorem State.receive_latch (b : List Byte) (s : State) : (s.receive b).latch = s.latch := rfl
@[simp] theorem State.receive_frames (b : List Byte) (s : State) : (s.receive b).frames = s.frames := rfl
@[simp] theorem State.receive_fidx (b : List Byte) (s : State) : (s.receive b).fidx = s.fidx := rfl
@[simp] theorem State.receive_session (b : List Byte) (s : State) : (s.receive b).session = s.session := rfl
@[simp] theorem State.receive_err (b : List Byte) (s : State) : (s.receive b).err = s.err := rfl
@[simp] theorem State.receive_cause (b : List Byte) (s : State) : (s.receive b).cause = s.cause := rfl
@[simp] theorem State.receive_rbuf (b : List Byte) (s : State) : (s.receive b).rbuf = some b := rfl
@[simp] theorem State.receive_waiting (b : List Byte) (s : State) : (s.receive b).waiting = s.waiting := rfl
@[simp] theorem State.receive_resetLine (b : List Byte) (s : State) : (s.receive b).resetLine = s.resetLine := rfl
@[simp] theorem State.receive_replies (b : List Byte) (s : State) : (s.receive b).replies = s.replies := rfl
@[simp] theorem State.receive_log (b : List Byte) (s : State) : (s.receive b).log = s.log := rfl
@[simp] theorem State.receive_completions (b : List Byte) (s : State) : (s.receive b).completions = s.completions := rfl

@[simp] theorem State.endSession_cfg (s : State) : (s.endSession).cfg = s.cfg := rfl
@[simp] theorem State.endSession_phase (s : State) : (s.endSession).phase = s.phase := rfl
@[simp] theorem State.endSession_latch (s : State) : (s.endSession).latch = s.latch := rfl
@[simp] theorem State.endSession_frames (s : State) : (s.endSession).frames = s.frames := rfl
@[simp] theorem State.endSession_fidx (s : State) : (s.endSession).fidx = s.fidx := rfl
@[simp] theorem State.endSession_session (s : State) : (s.endSession).session = false := rfl
@[simp] theorem State.endSession_err (s : State) : (s.endSession).err = s.err := rfl
@[simp] theorem State.endSession_cause (s : State) : (s.endSession).cause = s.cause := rfl
@[simp] theorem State.endSession_rbuf (s : State) : (s.endSession).rbuf = s.rbuf := rfl
@[simp] theorem State.endSession_waiting (s : State) : (s.endSession).waiting = s.waiting := rfl
@[simp] theorem State.endSession_resetLine (s : State) : (s.endSession).resetLine = s.resetLine := rfl
@[simp] theorem State.endSession_replies (s : State) : (s.endSession).replies = s.replies := rfl
@[simp] theorem State.endSession_log (s : State) : (s.endSession).log = s.log := rfl
@[simp] theorem State.endSession_completions (s : State) : (s.endSession).completions = s.completions := rfl

@[simp] theorem State.raise_cfg (c : Code) (s : State) : (s.raise c).cfg = s.cfg := rfl
@[simp] theorem State.raise_phase (c : Code) (s : State) : (s.raise c).phase = s.phase := rfl
@[simp] theorem State.raise_latch (c : Code) (s : State) : (s.raise c).latch = s.latch := rfl
@[simp] theorem State.raise_frames (c : Code) (s : State) : (s.raise c).frames = s.frames := rfl
@[simp] theorem State.raise_fidx (c : Code) (s : State) : (s.raise c).fidx = s.fidx := rfl
@[simp] theorem State.raise_session (c : Code) (s : State) : (s.raise c).session = s.session := rfl
@[simp] theorem State.raise_err (c : Code) (s : State) : (s.raise c).err = some c := rfl
@[simp] theorem State.raise_cause (c : Code) (s : State) : (s.raise c).cause = s.cause := rfl
@[simp] theorem State.raise_rbuf (c : Code) (s : State) : (s.raise c).rbuf = s.rbuf := rfl
@[simp] theorem State.raise_waiting (c : Code) (s : State) : (s.raise c).waiting = s.waiting := rfl
@[simp] theorem State.raise_resetLine (c : Code) (s : State) : (s.raise c).resetLine = s.resetLine := rfl
@[simp] theorem State.raise_replies (c : Code) (s : State) : (s.raise c).replies = s.replies := rfl
@[simp] theorem State.raise_log (c : Code) (s : State) : (s.raise c).log = s.log := rfl
@[simp] theorem State.raise_completions (c : Code) (s : State) : (s.raise c).completions = s.completions := rfl

@[simp] theorem State.raiseWith_cfg (c : Code) (d : Cause) (s : State) : (s.raiseWith c d).cfg = s.cfg := rfl
@[simp] theorem State.raiseWith_phase (c : Code) (d : Cause) (s : State) : (s.raiseWith c d).phase = s.phase := rfl
@[simp] theorem State.raiseWith_latch (c : Code) (d : Cause) (s : State) : (s.raiseWith c d).latch = s.latch := rfl
@[simp] theorem State.raiseWith_frames (c : Code) (d : Cause) (s : State) : (s.raiseWith c d).frames = s.frames := rfl
@[simp] theorem State.raiseWith_fidx (c : Code) (d : Cause) (s : State) : (s.raiseWith c d).fidx = s.fidx := rfl
@[simp] theorem State.raiseWith_session (c : Code) (d : Cause) (s : State) : (s.raiseWith c d).session = s.session := rfl
@[simp] theorem State.raiseWith_err (c : Code) (d : Cause) (s : State) : (s.raiseWith c d).err = some c := rfl
@[simp] theorem State.raiseWith_cause (c : Code) (d : Cause) (s : State) : (s.raiseWith c d).cause = some d := rfl
@[simp] theorem State.raiseWith_rbuf (c : Code) (d : Cause) (s : State) : (s.raiseWith c d).rbuf = s.rbuf := rfl
@[simp] theorem State.raiseWith_waiting (c : Code) (d : Cause) (s : State) : (s.raiseWith c d).waiting = s.waiting := rfl
@[simp] theorem State.raiseWith_resetLine (c : Code) (d : Cause) (s : State) : (s.raiseWith c d).resetLine = s.resetLine := rfl
@[simp] theorem State.raiseWith_replies (c : Code) (d : Cause) (s : State) : (s.raiseWith c d).replies = s.replies := rfl
@[simp] theorem State.raiseWith_log (c : Code) (d : Cause) (s : State) : (s.raiseWith c d).log = s.log := rfl
@[simp] theorem State.raiseWith_completions (c : Code) (d : Cause) (s : State) : (s.raiseWith c d).completions = s.completions := rfl

@[simp] theorem State.complete_cfg (resp : Bool) (s : State) : (s.complete resp).cfg = s.cfg := rfl
@[simp] theorem State.complete_phase (resp : Bool) (s : State) : (s.complete resp).phase = .idle := rfl
@[simp] theorem State.complete_latch (resp : Bool) (s : State) : (s.complete resp).latch = none := rfl
@[simp] theorem State.complete_frames (resp : Bool) (s : State) : (s.complete resp).frames = s.frames := rfl
@[simp] theorem State.complete_fidx (resp : Bool) (s : State) : (s.complete resp).fidx = s.fidx := rfl
@[simp] theorem State.complete_session (resp : Bool) (s : State) : (s.complete resp).session = s.session := rfl
@[simp] theorem State.complete_err (resp : Bool) (s : State) : (s.complete resp).err = s.err := rfl
@[simp] theorem State.complete_cause (resp : Bool) (s : State) : (s.complete resp).cause = s.cause := rfl
@[simp] theorem State.complete_rbuf (resp : Bool) (s : State) : (s.complete resp).rbuf = s.rbuf := rfl
@[simp] theorem State.complete_waiting (resp : Bool) (s : State) : (s.complete resp).waiting = s.waiting := rfl
@[simp] theorem State.complete_resetLine (resp : Bool) (s : State) : (s.complete resp).resetLine = s.resetLine := rfl
@[simp] theorem State.complete_replies (resp : Bool) (s : State) : (s.complete resp).replies = s.replies := rfl
@[simp] theorem State.complete_log (resp : Bool) (s : State) : (s.complete resp).log = s.log := rfl
@[simp] theorem State.complete_completions (resp : Bool) (s : State) : (s.complete resp).completions = s.completions ++ [s.completion resp] := rfl

@[simp] theorem State.record_cfg (c : Call) (s : State) : (s.record c).cfg = s.cfg := rfl
@[simp] theorem State.record_phase (c : Call) (s : State) : (s.record c).phase = s.phase := rfl
@[simp] theorem State.record_latch (c : Call) (s : State) : (s.record c).latch = s.latch := rfl
@[simp] theorem State.record_frames (c : Call) (s : State) : (s.record c).frames = s.frames := rfl
@[simp] theorem State.record_fidx (c : Call) (s : State) : (s.record c).fidx = s.fidx := rfl
@[simp] theorem State.record_session (c : Call) (s : State) : (s.record c).session = s.session := rfl
@[simp] theorem State.record_err (c : Call) (s : State) : (s.record c).err = s.err := rfl
@[simp] theorem State.record_cause (c : Call) (s : State) : (s.record c).cause = s.cause := rfl
@[simp] theorem State.record_rbuf (c : Call) (s : State) : (s.record c).rbuf = s.rbuf := rfl
@[simp] theorem State.record_waiting (c : Call) (s : State) : (s.record c).waiting = s.waiting := rfl
@[simp] theorem State.record_resetLine (c : Call) (s : State) : (s.record c).resetLine = s.resetLine := rfl
@[simp] theorem State.record_replies (c : Call) (s : State) : (s.record c).replies = s.replies.tail := rfl
@[simp] theorem State.record_log (c : Call) (s : State) : (s.record c).log = s.log ++ [(c, s.reply)] := rfl
@[simp] theorem State.record_completions (c : Call) (s : State) : (s.record c).completions = s.completions := rfl

@[simp] theorem State.withWaiting_cfg (q : List (List Instr)) (s : State) : (s.withWaiting q).cfg = s.cfg := rfl
@[simp] theorem State.withWaiting_phase (q : List (List Instr)) (s : State) : (s.withWaiting q).phase = s.phase := rfl
@[simp] theorem State.withWaiting_latch (q : List (List Instr)) (s : State) : (s.withWaiting q).latch = s.latch := rfl
@[simp] theorem State.withWaiting_frames (q : List (List Instr)) (s : State) : (s.withWaiting q).frames = s.frames := rfl
@[simp] theorem State.withWaiting_fidx (q : List (List Instr)) (s : State) : (s.withWaiting q).fidx = s.fidx := rfl
@[simp] theorem State.withWaiting_session (q : List (List Instr)) (s : State) : (s.withWaiting q).session = s.session := rfl
@[simp] theorem State.withWaiting_err (q : List (List Instr)) (s : State) : (s.withWaiting q).err = s.err := rfl
@[simp] theorem State.withWaiting_cause (q : List (List Instr)) (s : State) : (s.withWaiting q).cause = s.cause := rfl
@[simp] theorem State.withWaiting_rbuf (q : List (List Instr)) (s : State) : (s.withWaiting q).rbuf = s.rbuf := rfl
@[simp] theorem State.withWaiting_waiting (q : List (List Instr)) (s : State) : (s.withWaiting q).waiting = q := rfl
@[simp] theorem State.withWaiting_resetLine (q : List (List Instr)) (s : State) : (s.withWaiting q).resetLine = s.resetLine := rfl
@[simp] theorem State.withWaiting_replies (q : List (List Instr)) (s : State) : (s.withWaiting q).replies = s.replies := rfl
@[simp] theorem State.withWaiting_log (q : List (List Instr)) (s : State) : (s.withWaiting q).log = s.log := rfl
@[simp] theorem State.withWaiting_completions (q : List (List Instr)) (s : State) : (s.withWaiting q).completions = s.completions := rfl

@[simp] theorem State.resetPfe_cfg (s : State) : (s.resetPfe).cfg = s.cfg := rfl
@[simp] theorem State.resetPfe_phase (s : State) : (s.resetPfe).phase = .idle := rfl
@[simp] theorem State.resetPfe_latch (s : State) : (s.resetPfe).latch = none := rfl
@[simp] theorem State.resetPfe_frames (s : State) : (s.resetPfe).frames = [] := rfl
@[simp] theorem State.resetPfe_fidx (s : State) : (s.resetPfe).fidx = 0 := rfl
@[simp] theorem State.resetPfe_session (s : State) : (s.resetPfe).session = false := rfl
@[simp] theorem State.resetPfe_err (s : State) : (s.resetPfe).err = none := rfl
@[simp] theorem State.resetPfe_cause (s : State) : (s.resetPfe).cause = none := rfl
@[simp] theorem State.resetPfe_rbuf (s : State) : (s.resetPfe).rbuf = none := rfl
@[simp] theorem State.resetPfe_waiting (s : State) : (s.resetPfe).waiting = s.waiting := rfl
@[simp] theorem State.resetPfe_resetLine (s : State) : (s.resetPfe).resetLine = false := rfl
@[simp] theorem State.resetPfe_replies (s : State) : (s.resetPfe).replies = s.replies := rfl
@[simp] theorem State.resetPfe_log (s : State) : (s.resetPfe).log = s.log := rfl
@[simp] theorem State.resetPfe_completions (s : State) : (s.resetPfe).completions = s.completions := rfl

@[simp] theorem State.onlyWaiting_cfg (q : List Instr) (s : State) : (s.onlyWaiting q).cfg = s.cfg := rfl
@[simp] theorem State.onlyWaiting_phase (q : List Instr) (s : State) : (s.onlyWaiting q).phase = .idle := rfl
@[simp] theorem State.onlyWaiting_latch (q : List Instr) (s : State) : (s.onlyWaiting q).latch = none := rfl
@[simp] theorem State.onlyWaiting_frames (q : List Instr) (s : State) : (s.onlyWaiting q).frames = s.frames := rfl
@[simp] theorem State.onlyWaiting_fidx (q : List Instr) (s : State) : (s.onlyWaiting q).fidx = s.fidx := rfl
@[simp] theorem State.onlyWaiting_session (q : List Instr) (s : State) : (s.onlyWaiting q).session = false := rfl
@[simp] theorem State.onlyWaiting_err (q : List Instr) (s : State) : (s.onlyWaiting q).err = s.err := rfl
@[simp] theorem State.onlyWaiting_cause (q : List Instr) (s : State) : (s.onlyWaiting q).cause = s.cause := rfl
@[simp] theorem State.onlyWaiting_rbuf (q : List Instr) (s : State) : (s.onlyWaiting q).rbuf = s.rbuf := rfl
@[simp] theorem State.onlyWaiting_waiting (q : List Instr) (s : State) : (s.onlyWaiting q).waiting = [q] := rfl
@[simp] theorem State.onlyWaiting_resetLine (q : List Instr) (s : State) : (s.onlyWaiting q).resetLine = false := rfl
@[simp] theorem State.onlyWaiting_replies (q : List Instr) (s : State) : (s.onlyWaiting q).replies = s.replies := rfl
@[simp] theorem State.onlyWaiting_log (q : List Instr) (s : State) : (s.onlyWaiting q).log = s.log := rfl
@[simp] theorem State.onlyWaiting_completions (q : List Instr) (s : State) : (s.onlyWaiting q).completions = s.completions := rfl

/-- The next answer depends on the listed answers and the length of the log only. -/
theorem State.reply_congr {s t : State} (hr : s.replies = t.replies) (hl : s.log = t.log) : s.reply = t.reply := by
  simp [State.reply, hr, hl]

/-- The answer is the first listed one, where one is listed. -/
theorem State.reply_of_cons {s : State} {r : Reply} {rs : List Reply} (h : s.replies = r :: rs) : s.reply = r := by
  simp [State.reply, h]

/-- A completion reads the error, the cause and the response only. -/
theorem State.completion_congr {s t : State} (resp : Bool) (he : s.err = t.err) (hc : s.cause = t.cause)
    (hb : s.rbuf = t.rbuf) : s.completion resp = t.completion resp := by
  simp [State.completion, he, hc, hb]

end Sys2Proof.Machine
end

