-- ==== Sys2Proof/Laws/Ops.lean ====
section
/-! SUPPORT. For each step of the session one lemma that says everything it can do when it answers a next state, and
the same for a step of the machine; every instruction's meaning is `serve` of the request it stands for. -/

namespace Sys2Proof.Machine

/-- Every meaning is `serve` of the instruction and the request it stands for. -/
theorem exec_eq_serve (i : Instr) (s : State) : exec i s = serve i (i.request? s.cfg) s := by
  cases i <;> rfl

theorem respOf_request? (cfg : Config) (i : Instr) : respOf (i.request? cfg) = i.resp cfg := rfl

/-- CHECK: the frames are loaded, or the dimension error is completed. -/
theorem checkStep_next {r? : Option Request} {s t : State} (h : checkStep r? s = .next t) :
    ∃ r, r? = some r ∧ Request.refusal? s.cfg r = none ∧
      ((r.dimsOk = true ∧ t = s.loadFrames (r.frames s.cfg)) ∨
       (r.dimsOk = false ∧ t = (s.raise .dimensionError).complete r.resp)) := by
  unfold checkStep at h
  split at h
  · cases h
  · rename_i r
    split at h
    · cases h
    · rename_i hr
      refine ⟨r, rfl, hr, ?_⟩
      split at h
      · rename_i hd
        exact .inl ⟨hd, by cases h; rfl⟩
      · rename_i hd
        exact .inr ⟨by simpa using hd, by cases h; rfl⟩

/-- OPEN: the session is open, or the open's failure is completed. -/
theorem openStep_next {resp : Bool} {s t : State} (h : openStep resp s = .next t) :
    (∃ b, s.reply = .ok b ∧ t = (s.record .openSession).opened) ∨
    (∃ c n, s.reply = .fail c n ∧ t = ((s.record .openSession).raiseWith .transportOpen c).complete resp) := by
  unfold openStep at h
  split at h
  · rename_i b hb
    exact .inl ⟨b, hb, by cases h; rfl⟩
  · rename_i c n hc
    exact .inr ⟨c, n, hc, by cases h; rfl⟩
  · cases h

/-- WRITE: all frames are written, or one more is, or its failure is recorded. -/
theorem writeStep_next {resp : Bool} {s t : State} (h : writeStep resp s = .next t) :
    (s.fidx = s.frames.length ∧ t = s.goto (if resp then .read else .close)) ∨
    (s.fidx ≠ s.frames.length ∧ ∃ f, s.frames[s.fidx]? = some f ∧
      ((∃ b, s.reply = .ok b ∧ t = (s.record (.write f)).advance) ∨
       (∃ c n, s.reply = .fail c n ∧
         t = ((s.record (.write f)).raiseWith .transportWrite c).goto .close))) := by
  unfold writeStep at h
  split at h
  · rename_i hl
    exact .inl ⟨hl, by cases h; rfl⟩
  · rename_i hl
    refine .inr ⟨hl, ?_⟩
    split at h
    · cases h
    · rename_i f hf
      refine ⟨f, hf, ?_⟩
      split at h
      · rename_i b hb
        exact .inl ⟨b, hb, by cases h; rfl⟩
      · rename_i c n hc
        exact .inr ⟨c, n, hc, by cases h; rfl⟩
      · cases h

/-- READ: the response is received, or the short read or the failure is recorded. -/
theorem readStep_next {s t : State} (h : readStep s = .next t) :
    (∃ b, s.reply = .ok b ∧ b.length = Param.respLen ∧
      t = ((s.record (.read Param.respLen)).receive b).goto .close) ∨
    (∃ b, s.reply = .ok b ∧ b.length < Param.respLen ∧
      t = ((s.record (.read Param.respLen)).raise .transportShortRead).goto .close) ∨
    (∃ c n, s.reply = .fail c n ∧
      t = ((s.record (.read Param.respLen)).raiseWith .transportRead c).goto .close) := by
  unfold readStep at h
  split at h
  · rename_i b hb
    split at h
    · rename_i hl
      exact .inl ⟨b, hb, hl, by cases h; rfl⟩
    · split at h
      · rename_i hl
        exact .inr (.inl ⟨b, hb, hl, by cases h; rfl⟩)
      · cases h
  · rename_i c n hc
    exact .inr (.inr ⟨c, n, hc, by cases h; rfl⟩)
  · cases h

/-- CLOSE: the completion is given, a close failure recorded first where nothing failed before. -/
theorem closeStep_next {resp : Bool} {s t : State} (h : closeStep resp s = .next t) :
    (∃ b, s.reply = .ok b ∧ t = (s.record .close).endSession.complete resp) ∨
    (∃ c n, s.reply = .fail c n ∧
      ((s.err = none ∧ t = ((s.record .close).raiseWith .transportClose c).endSession.complete resp) ∨
       (s.err ≠ none ∧ t = (s.record .close).endSession.complete resp))) := by
  unfold closeStep at h
  split at h
  · rename_i b hb
    exact .inl ⟨b, hb, by cases h; rfl⟩
  · rename_i c n hc
    refine .inr ⟨c, n, hc, ?_⟩
    split at h
    · rename_i he
      exact .inl ⟨he, by cases h; rfl⟩
    · rename_i he
      exact .inr ⟨he, by cases h; rfl⟩
  · cases h

/-- The step of an instruction is the step of the phase the machine is in. -/
theorem serve_next {i : Instr} {r? : Option Request} {s t : State} (h : serve i r? s = .next t) :
    (s.phase = .idle ∧ t = s.accept i) ∨
    (s.phase = .check ∧ checkStep r? s = .next t) ∨
    (s.phase = .opening ∧ openStep (respOf r?) s = .next t) ∨
    (s.phase = .write ∧ writeStep (respOf r?) s = .next t) ∨
    (s.phase = .read ∧ readStep s = .next t) ∨
    (s.phase = .close ∧ closeStep (respOf r?) s = .next t) := by
  unfold serve at h
  split at h <;> simp_all [eq_comm]

/-- What PFE does next, by phase. -/
theorem nextMove_run {s u : State} {i : Instr} (h : s.nextMove = .run i u) :
    (s.phase = .idle ∧ ∃ q, pick (Config.schedule s.completions.length) s.waiting = some (i, q) ∧
      u = s.withWaiting q) ∨
    (s.phase ≠ .idle ∧ s.latch = some i ∧ u = s) := by
  unfold State.nextMove at h
  split at h
  · rename_i hp
    split at h
    · rename_i j q hq
      cases h
      exact .inl ⟨hp, q, hq, rfl⟩
    · cases h
  · rename_i hp
    split at h
    · rename_i j hj
      cases h
      exact .inr ⟨hp, hj, rfl⟩
    · cases h

/-- A step of the machine takes a reset, runs one instruction's step, or waits in IDLE. -/
theorem step_next {s t : State} (h : step s = .next t) :
    (s.resetLine = true ∧ s.phase = .idle ∧ t = s.resetPfe) ∨
    (s.resetLine = false ∧ ∃ i u, s.nextMove = .run i u ∧ exec i u = .next t) ∨
    (s.resetLine = false ∧ s.nextMove = .wait ∧ t = s) := by
  unfold step at h
  split at h
  · rename_i hr
    unfold applyReset at h
    split at h
    · rename_i hp
      exact .inl ⟨hr, hp, by cases h; rfl⟩
    · cases h
  · rename_i hr
    refine .inr ?_
    split at h
    · rename_i i u hm
      exact .inl ⟨by simpa using hr, i, u, hm, h⟩
    · rename_i hm
      exact .inr ⟨by simpa using hr, hm, by cases h; rfl⟩
    · cases h

/-- PFE waits only in IDLE. -/
theorem nextMove_wait {s : State} (h : s.nextMove = .wait) : s.phase = .idle := by
  unfold State.nextMove at h
  split at h
  · assumption
  · split at h <;> cases h

end Sys2Proof.Machine
end

