-- ==== Sys2Proof/Laws/Packing.lean ====
section
/-! SUPPORT. The bit buffers of spec/20_memory.md R68: reading a bit after setting one, and what a packing loop leaves
at each index; the cell a matrix has at a place. -/

namespace Sys2Proof

@[simp] theorem setBit_length (p : List Byte) (i : Nat) : (setBit p i).length = p.length := by
  simp [setBit]

@[simp] theorem zeros_length (n : Nat) : (zeros n).length = n := by simp [zeros]

@[simp] theorem bitAt_zeros (n i : Nat) : bitAt (zeros n) i = false := by
  unfold bitAt zeros
  split
  · rename_i b hb
    obtain rfl : b = 0 := by
      rw [List.getElem?_replicate] at hb
      split at hb <;> simp_all
    simp
  · rfl

/-- Bit `b` of the byte that has only bit `a` set. -/
theorem oneBit_getLsbD {a b : Nat} (ha : a < 8) (hb : b < 8) : (1#8 <<< a).getLsbD b = decide (a = b) := by
  interval_cases a <;> interval_cases b <;> rfl

/-- Reading a bit after setting one (R68). -/
theorem bitAt_setBit (p : List Byte) (i j : Nat) :
    bitAt (setBit p i) j = (bitAt p j || (decide (i = j) && decide (i / 8 < p.length))) := by
  unfold bitAt setBit
  rw [List.getElem?_modify]
  by_cases hd : i / 8 = j / 8
  · cases hp : p[j / 8]? with
    | none => simp [List.getElem?_eq_none_iff.mp hp, hd]
    | some b =>
      have hlt : j / 8 < p.length := (List.getElem?_eq_some_iff.mp hp).1
      have hj : j % 8 < 8 := Nat.mod_lt _ (by omega)
      have hi : i % 8 < 8 := Nat.mod_lt _ (by omega)
      have key : ((1#8 <<< (i % 8)).getLsbD (j % 8)) = decide (i = j) := by
        rw [oneBit_getLsbD hi hj]
        exact decide_eq_decide.mpr (by omega)
      simp [hd, hlt, key]
  · have hne : i ≠ j := by rintro rfl; exact hd rfl
    cases hp : p[j / 8]? <;> simp [hd, hne]

/-- A packing loop over any list of items keeps the buffer's length. -/
theorem foldl_setBit_length {α : Type} (on : α → Bool) (idx : α → Nat) (l : List α) (p : List Byte) :
    (l.foldl (fun p a => if on a then setBit p (idx a) else p) p).length = p.length := by
  induction l generalizing p with
  | nil => rfl
  | cons a l ih =>
    rw [List.foldl_cons, ih]
    split <;> simp

/-- A packing loop leaves a bit set where it was set before or where an item that is on has that index. -/
theorem bitAt_foldl_setBit {α : Type} (on : α → Bool) (idx : α → Nat) (l : List α) (p : List Byte) (j : Nat)
    (hj : j / 8 < p.length) :
    bitAt (l.foldl (fun p a => if on a then setBit p (idx a) else p) p) j =
      (bitAt p j || l.any fun a => on a && decide (idx a = j)) := by
  induction l generalizing p with
  | nil => simp
  | cons a l ih =>
    rw [List.foldl_cons, ih _ (by split <;> simp [hj])]
    cases hon : on a with
    | false => simp [hon]
    | true =>
      simp only [if_true, bitAt_setBit, List.any_cons, hon, Bool.true_and, Bool.or_assoc]
      congr 2
      by_cases h : idx a = j
      · subst h; simp [hj]
      · simp [h]

/-- The cell at (x, y) is element y of column x (R11, R61). -/
theorem cell?_of_getElem? {m : CellMatrix} {x y : Nat} {col : List Cell} {c : Cell} (hx : m[x]? = some col)
    (hy : col[y]? = some c) : m.cell? x y = some c := by
  simp [CellMatrix.cell?, hx, hy]

theorem onAt_of_getElem? (on : Cell → Bool) {m : CellMatrix} {x y : Nat} {col : List Cell} {c : Cell}
    (hx : m[x]? = some col) (hy : col[y]? = some c) : m.onAt on x y = on c := by
  simp [CellMatrix.onAt, cell?_of_getElem? hx hy]

@[simp] theorem pack1_length (m : CellMatrix) : (pack1 m).length = Param.fullLen := by
  rw [pack1, foldl_setBit_length (fun c : Nat × Nat => m.onAt Cell.onSmall c.1 c.2)
    (fun c => c.1 + Param.smallWidth * c.2), zeros_length]

@[simp] theorem packCol_length (on : Cell → Bool) (m : CellMatrix) (x h : Nat) :
    (packCol on m x h).length = (h + 7) / 8 := by
  rw [packCol, foldl_setBit_length (fun y => m.onAt on x y) (fun y => y), zeros_length]

end Sys2Proof
end

