-- ==== Sys2Proof/Laws/PerInstr.lean ====
section
/-! SUPPORT. Statements made per instruction: what an instruction's encoding begins with. -/

namespace Sys2Proof.Laws.EncodedHeader

/-- Whatever an instruction encodes to begins with the magic and the opcode of its command, and the parameters follow
(spec/30_encoding.md R90 to R92). -/
def Statement (i : Instr) : Prop :=
  ∀ cfg f, encode cfg i = some f →
    ∃ op params, i.command? cfg = some (op, params) ∧ f = Param.magic0 :: Param.magic1 :: op :: params

theorem of_any (i : Instr) : Statement i := by
  intro cfg f h
  unfold encode at h
  cases hc : i.command? cfg with
  | none => simp [hc] at h
  | some c =>
    refine ⟨c.1, c.2, rfl, ?_⟩
    simpa [hc, frameOf, eq_comm] using h

theorem brightness (params : List Byte) (resp : Bool) : Statement (.brightness params resp) := of_any _
theorem pattern (params : List Byte) (resp : Bool) : Statement (.pattern params resp) := of_any _
theorem bootloaderReset (params : List Byte) (resp : Bool) : Statement (.bootloaderReset params resp) := of_any _
theorem sleep (params : List Byte) (resp : Bool) : Statement (.sleep params resp) := of_any _
theorem animate (params : List Byte) (resp : Bool) : Statement (.animate params resp) := of_any _
theorem panic (params : List Byte) (resp : Bool) : Statement (.panic params resp) := of_any _
theorem draw (params : List Byte) (resp : Bool) : Statement (.draw params resp) := of_any _
theorem stageGreyCol (params : List Byte) (resp : Bool) : Statement (.stageGreyCol params resp) := of_any _
theorem drawGreyColBuffer (params : List Byte) (resp : Bool) : Statement (.drawGreyColBuffer params resp) := of_any _
theorem setText (params : List Byte) (resp : Bool) : Statement (.setText params resp) := of_any _
theorem startGame (params : List Byte) (resp : Bool) : Statement (.startGame params resp) := of_any _
theorem gameControl (params : List Byte) (resp : Bool) : Statement (.gameControl params resp) := of_any _
theorem setColor (params : List Byte) (resp : Bool) : Statement (.setColor params resp) := of_any _
theorem displayOn (params : List Byte) (resp : Bool) : Statement (.displayOn params resp) := of_any _
theorem invertScreen (params : List Byte) (resp : Bool) : Statement (.invertScreen params resp) := of_any _
theorem setPixelColumn (params : List Byte) (resp : Bool) : Statement (.setPixelColumn params resp) := of_any _
theorem flushFramebuffer (params : List Byte) (resp : Bool) : Statement (.flushFramebuffer params resp) := of_any _
theorem screenSaver (params : List Byte) (resp : Bool) : Statement (.screenSaver params resp) := of_any _
theorem setFps (params : List Byte) (resp : Bool) : Statement (.setFps params resp) := of_any _
theorem setPowerMode (params : List Byte) (resp : Bool) : Statement (.setPowerMode params resp) := of_any _
theorem version (params : List Byte) (resp : Bool) : Statement (.version params resp) := of_any _
theorem extraOpcode (v : Byte) (params : List Byte) (resp : Bool) : Statement (.extraOpcode v params resp) := of_any _
theorem monoStage (x : Fin 9) (packed : Vector Byte 5) (resp : Bool) : Statement (.monoStage x packed resp) := of_any _
theorem monoCommit (resp : Bool) : Statement (.monoCommit resp) := of_any _
theorem cmd (op : Byte) (params : List Byte) (resp : Bool) : Statement (.cmd op params resp) := of_any _
theorem encFullMono (m : CellMatrix) : Statement (.encFullMono m) := of_any _
theorem encColMono (m : CellMatrix) : Statement (.encColMono m) := of_any _
theorem encColGrey (m : CellMatrix) : Statement (.encColGrey m) := of_any _
theorem encWideMono (m : CellMatrix) : Statement (.encWideMono m) := of_any _

end Sys2Proof.Laws.EncodedHeader
end

