-- ==== Sys2Proof/Laws/Run.lean ====
section
/-! SUPPORT. Several steps at once: composing runs, and that they are the host's runs. -/

namespace Sys2Proof.Machine

theorem runSteps_zero (s : State) : runSteps 0 s = .next s := rfl

theorem runSteps_succ (n : Nat) {s t : State} (h : step s = .next t) : runSteps (n + 1) s = runSteps n t := by
  simp [runSteps, h]

theorem runSteps_add {n : Nat} (m : Nat) {s t : State} (h : runSteps n s = .next t) :
    runSteps (n + m) s = runSteps m t := by
  induction n generalizing s with
  | zero =>
    obtain rfl : s = t := by simpa [runSteps] using h
    simp
  | succ n ih =>
    rw [show n + 1 + m = (n + m) + 1 by omega]
    simp only [runSteps] at h ⊢
    split <;> simp_all

/-- Outside IDLE, with no reset applied, a run of `n + 1` steps starts with the latched request's. -/
theorem nextMove_of_latched {s : State} {i : Instr} (hp : s.phase ≠ .idle) (hl : s.latch = some i) :
    s.nextMove = .run i s := by
  unfold State.nextMove
  split <;> simp_all

/-- A host's run goes on after a step that answers a next state. -/
theorem core_run_succ_next (M : Host.Core) (n : Nat) (s t : M.State) (h : M.step s = .next t) :
    M.run (n + 1) s = M.run n t := by
  rw [Host.Core.run, h]

theorem core_run_succ_fault (M : Host.Core) (n : Nat) (s : M.State) (f : M.Fault) (h : M.step s = .fault f) :
    M.run (n + 1) s = .fault f := by
  rw [Host.Core.run, h]

theorem core_run_succ_refused (M : Host.Core) (n : Nat) (s : M.State) (r : M.Refusal) (h : M.step s = .refused r) :
    M.run (n + 1) s = .refused r := by
  rw [Host.Core.run, h]

/-- The host's runs are these runs. -/
theorem runSteps_eq_core_run (n : Nat) (s : State) : runSteps n s = Host.Core.run Sys2Proof.core n s := by
  induction n generalizing s with
  | zero => rfl
  | succ n ih =>
    cases h : step s with
    | next t => exact (runSteps_succ n h).trans ((ih t).trans (core_run_succ_next Sys2Proof.core n s t h).symm)
    | fault f =>
      have hr : runSteps (n + 1) s = .fault f := by simp [runSteps, h]
      exact hr.trans (core_run_succ_fault Sys2Proof.core n s f h).symm
    | refused r =>
      have hr : runSteps (n + 1) s = .refused r := by simp [runSteps, h]
      exact hr.trans (core_run_succ_refused Sys2Proof.core n s r h).symm

end Sys2Proof.Machine
end

