-- ==== Sys2Proof/Machine/Assembler.lean ====
section
/-! DEFINITION. The assembly notation of requests, spec/30_encoding.md R100 and R101, with the byte literals of
spec/00_scope.md R8, and loading a program of requests. The spec's own notation (D28). The lexical details the rules do
not fix (spaces, hexadecimal digits of either case, blank lines) are a DESIGN CHOICE, log entry 19. -/

namespace Sys2Proof

/-- The tokens of a line. -/
inductive AsmToken where
  | word (cs : List Char)
  | comma
  | lbracket
  | rbracket
  deriving DecidableEq, Repr

def asmWord (revWord : List Char) : List AsmToken :=
  match revWord with
  | [] => []
  | cs => [.word cs.reverse]

/-- The tokens of a line up to its comment (R100: "`;` starts a comment"); the second list is the word being read, last
character first. -/
def asmTokens : List Char → List Char → List AsmToken
  | [], w => asmWord w
  | c :: cs, w =>
    if c = ';' then asmWord w
    else if c = ' ' ∨ c = '\t' ∨ c = '\r' then asmWord w ++ asmTokens cs []
    else if c = ',' then asmWord w ++ .comma :: asmTokens cs []
    else if c = '[' then asmWord w ++ .lbracket :: asmTokens cs []
    else if c = ']' then asmWord w ++ .rbracket :: asmTokens cs []
    else asmTokens cs (c :: w)

/-- The value of a digit in a base. -/
def digitOf? (base : Nat) (c : Char) : Option Nat :=
  let v :=
    if '0'.toNat ≤ c.toNat ∧ c.toNat ≤ '9'.toNat then c.toNat - '0'.toNat
    else if 'a'.toNat ≤ c.toNat ∧ c.toNat ≤ 'f'.toNat then c.toNat - 'a'.toNat + 10
    else if 'A'.toNat ≤ c.toNat ∧ c.toNat ≤ 'F'.toNat then c.toNat - 'A'.toNat + 10
    else base
  if v < base then some v else none

def numberOf? (base : Nat) : List Char → Option Nat
  | [] => none
  | cs => cs.foldl (fun n? c => n?.bind fun n => (digitOf? base c).map fun d => n * base + d) (some 0)

/-- A byte literal (R8): `0x` hexadecimal, `0b` binary, otherwise decimal; 0 to 255. -/
def byteLiteral? (cs : List Char) : Option Byte :=
  let n? :=
    match cs with
    | '0' :: 'x' :: ds => numberOf? 16 ds
    | '0' :: 'b' :: ds => numberOf? 2 ds
    | ds => numberOf? 10 ds
  n?.bind fun n => if n < 256 then some (BitVec.ofNat 8 n) else none

/-- The rest of a byte list after its `[`, or after an element: `, b` or `]`, and nothing after the `]`. -/
def asmMoreBytes : List AsmToken → Option (List Byte)
  | [.rbracket] => some []
  | .comma :: .word w :: rest =>
    match byteLiteral? w, asmMoreBytes rest with
    | some b, some bs => some (b :: bs)
    | _, _ => none
  | _ => none

/-- `[<b0>, <b1>, ...]`, `[]` the empty list (R100). -/
def asmBytes? : List AsmToken → Option (List Byte)
  | [.lbracket, .rbracket] => some []
  | .lbracket :: .word w :: rest =>
    match byteLiteral? w, asmMoreBytes rest with
    | some b, some bs => some (b :: bs)
    | _, _ => none
  | _ => none

/-- A head word without the `?` that asks for a response, and whether it had one. -/
def asmHead (w : List Char) : List Char × Bool :=
  match w.reverse with
  | '?' :: rest => (rest.reverse, true)
  | _ => (w, false)

/-- The matrices "defined beside the program" (R100), by name. -/
abbrev MatrixNames := List (List Char × CellMatrix)

def MatrixNames.find? (names : MatrixNames) (name : List Char) : Option CellMatrix :=
  (List.find? (fun e => e.1 = name) names).map Prod.snd

/-- The request of a line of tokens (R100, R101). -/
def asmRequest? (names : MatrixNames) : List AsmToken → Option Instr
  | [.word w, .word name] =>
    if w = "ENC.FULL".toList then (names.find? name).map Instr.encFullMono
    else if w = "ENC.COLM".toList then (names.find? name).map Instr.encColMono
    else if w = "ENC.GREY".toList then (names.find? name).map Instr.encColGrey
    else if w = "ENC.WIDE".toList then (names.find? name).map Instr.encWideMono
    else none
  | .word w :: .word op :: .comma :: rest =>
    if (asmHead w).1 = "CMD".toList then
      match byteLiteral? op, asmBytes? rest with
      | some op, some params => some (.cmd op params (asmHead w).2)
      | _, _ => none
    else none
  | .word w :: rest =>
    match opcodeTable.find? fun row => row.mnemonic.toList = (asmHead w).1, asmBytes? rest with
    | some row, some params => some (row.build params (asmHead w).2)
    | _, _ => none
  | _ => none

/-- A line: none where it is no line of R100, else the request it holds, if any (a blank line holds none). -/
def asmLine? (names : MatrixNames) (line : List Char) : Option (List Instr) :=
  match asmTokens line [] with
  | [] => some []
  | ts => (asmRequest? names ts).map fun i => [i]

/-- The lines of a text. -/
def asmLines : List Char → List Char → List (List Char)
  | [], line => [line.reverse]
  | '\n' :: cs, line => line.reverse :: asmLines cs []
  | c :: cs, line => asmLines cs (c :: line)

/-- "The program is the requests in line order" (R100); none where a line is none. -/
def assemble? (names : MatrixNames) (text : List Char) : Option (List Instr) :=
  (asmLines text []).foldr
    (fun line acc? =>
      match asmLine? names line, acc? with
      | some is, some acc => some (is ++ acc)
      | _, _ => none)
    (some [])

/-- Requester 0 presents the requests of a program in order. -/
def Machine.State.load (program : List Instr) (s : Machine.State) : Machine.State :=
  program.foldl (fun s i => s.present 0 i) s

end Sys2Proof
end

