-- ==== Sys2Proof/Tests/Slice0.lean ====
section
/-! SUPPORT. Tests of the model. Expected values come from spec/95_test_vectors.md (the section or row is named at each
test) or are worked out by hand from the rule named. The second half shows, for every statement of
Certificates/Slice0/Obligations.lean with hypotheses, states and operands that meet them. -/

set_option maxRecDepth 20000

namespace Sys2Proof.Tests

open Sys2Proof Sys2Proof.Machine

def nextOf : StepResult → Option State
  | .next s => some s
  | .fault _ => none
  | .refused _ => none

def refusalOf : StepResult → Option Refusal
  | .next _ => none
  | .fault _ => none
  | .refused r => some r

def faultOf : StepResult → Option Fault
  | .next _ => none
  | .fault f => some f
  | .refused _ => none

/-- A configuration as program P5 has it: mode 2 given, its opcodes admitted, `MAX_PARAM_LEN` 52. -/
def monoCfg : Config :=
  { monoStageOp := some 0x0A, monoCommitOp := some 0x0B, extraOpcodes := [0x0A, 0x0B, 0x0C], maxParamLen := some 52 }

/-- Mode 2 not given, no extra opcodes, `MAX_PARAM_LEN` 52. -/
def plainCfg : Config := { monoStageOp := none, monoCommitOp := none, extraOpcodes := [], maxParamLen := some 52 }

/-- The reset machine under a configuration, with `i` latched in a phase and the transport's next answers. -/
def at_ (cfg : Config) (p : Phase) (i : Instr) (replies : List Reply) : State :=
  { State.reset with cfg := cfg, phase := p, latch := some i, session := p.inSession, replies := replies }

/-- The frames `i` loads in CHECK. -/
def framesOf (i : Instr) : Option (List Frame) :=
  (nextOf (exec i (at_ monoCfg .check i []))).map State.frames

/-- A session of `i` with its frames and index set. -/
def session (p : Phase) (i : Instr) (k : Nat) (replies : List Reply) : State :=
  { at_ monoCfg p i replies with frames := i.frames monoCfg, fidx := k }

def constMatrix (c : Cell) (w h : Nat) : CellMatrix := List.replicate w (List.replicate h c)

def byRule (w h : Nat) (f : Nat → Nat → Cell) : CellMatrix :=
  (List.range w).map fun x => (List.range h).map fun y => f x y

def diagonal : CellMatrix := byRule 9 34 fun x y => .bin (x == y)
def checkerboard : CellMatrix := byRule 9 34 fun x y => .bin ((x + y) % 2 == 0)
def mixed : CellMatrix := [[.bin true, .grey 3]]
def tag7 : Cause := ⟨7⟩
def tag8 : Cause := ⟨8⟩
def ok32 : List Byte := 0x01 :: List.replicate 31 0

/-- The requests of section 3. -/
def brightness80 : Instr := .brightness [0x80] false
def versionResp : Instr := .version [] true
def panicCmd : Instr := .panic [] false

/-! ### Well-formedness refuses an ill-formed term of each check (R99) -/

/-- R96(c), vector T14. -/
theorem test_wf_refuses_opcode_not_admitted : Request.wellFormed plainCfg (.cmd 0x0C [] false) = false := by decide

/-- R96(b), vector T15. -/
theorem test_wf_admits_extra_opcode : Request.wellFormed monoCfg (.cmd 0x0C [] false) = true := by decide

/-- R99(a), vector T16. -/
theorem test_wf_refuses_params_too_long :
    Request.wellFormed plainCfg (.cmd 0x00 (List.replicate 53 0) false) = false := by decide

/-- Section 2, last row. -/
theorem test_wf_admits_longest_params :
    Request.wellFormed plainCfg (.cmd 0x09 (List.replicate 52 0x41) false) = true := by decide

/-- R99(b), vector T18. -/
theorem test_wf_refuses_mono_opcodes_unset : Request.wellFormed plainCfg (.encColMono diagonal) = false := by decide

/-- R99(b): given, but not admitted. -/
theorem test_wf_refuses_mono_opcode_not_admitted :
    (Request.wellFormed { monoCfg with extraOpcodes := [0x0B] } (.encColMono diagonal)) = false := by decide

/-- R99(c), vector T17. -/
theorem test_wf_refuses_bin_in_grey_mode : Request.wellFormed monoCfg (.encColGrey diagonal) = false := by decide

/-- R99(d). -/
theorem test_wf_refuses_mixed_cells :
    Request.wellFormed monoCfg (.encFullMono mixed) = false ∧ Request.wellFormed monoCfg (.encColMono mixed) = false ∧
    Request.wellFormed monoCfg (.encColGrey mixed) = false ∧ Request.wellFormed monoCfg (.encWideMono mixed) = false := by
  decide

/-- R99: the dimension check is not part of it. -/
theorem test_wf_leaves_dimensions_to_check :
    Request.wellFormed monoCfg (.encFullMono (constMatrix (.bin true) 9 33)) = true := by decide

/-- R99(b), D13. -/
theorem test_wf_refuses_mono_commit_unset :
    Instr.wellFormed plainCfg (.monoCommit false) = false ∧ Instr.wellFormed monoCfg (.monoCommit false) = true := by
  decide

/-- R7. -/
theorem test_config_wf :
    Config.wf monoCfg = true ∧ Config.wf { monoCfg with maxParamLen := some 51 } = false := by decide

/-! ### Decoding words written out from the encoding (R90, R94, R95), and encoding (section 2) -/

/-- Section 2. -/
theorem test_decode_brightness_bytes :
    decode plainCfg false [0x32, 0xAC, 0x00, 0x80] = .ok (.brightness [0x80] false) := by rfl

/-- Section 2. -/
theorem test_decode_set_color_bytes :
    decode plainCfg false [0x32, 0xAC, 0x13, 0x00, 0x80, 0xFF] = .ok (.setColor [0x00, 0x80, 0xFF] false) := by rfl

/-- Section 2, the corner case after the table: no length field, nothing escaped. -/
theorem test_decode_header_inside_params :
    decode plainCfg true [0x32, 0xAC, 0x00, 0x80, 0x32, 0xAC, 0x20] = .ok (.brightness [0x80, 0x32, 0xAC, 0x20] true) := by
  rfl

/-- R171. -/
theorem test_decode_extra_opcode :
    decode monoCfg false [0x32, 0xAC, 0x0C, 0x01] = .ok (.extraOpcode 0x0C [0x01] false) := by rfl

/-- R226, column 8 of the diagonal. -/
theorem test_decode_mono_stage :
    decode monoCfg false [0x32, 0xAC, 0x0A, 0x08, 0x00, 0x01, 0x00, 0x00, 0x00] =
    .ok (.monoStage 8 #v[0x00, 0x01, 0x00, 0x00, 0x00] false) := by rfl

/-- R226: the index byte is 0 to 8. -/
theorem test_decode_mono_stage_column_9_is_no_stage :
    decode monoCfg false [0x32, 0xAC, 0x0A, 0x09, 0x00, 0x01, 0x00, 0x00, 0x00] =
    .ok (.extraOpcode 0x0A [0x09, 0x00, 0x01, 0x00, 0x00, 0x00] false) := by rfl

/-- R226. -/
theorem test_decode_mono_commit : decode monoCfg false [0x32, 0xAC, 0x0B] = .ok (.monoCommit false) := by rfl

/-- R91: the magic in the other order. -/
theorem test_decode_refuses_bad_magic :
    decode monoCfg false [0xAC, 0x32, 0x00] = .error (.badMagic 0xAC 0x32) := by rfl

/-- R96(c). -/
theorem test_decode_refuses_gap_opcode :
    decode plainCfg false [0x32, 0xAC, 0x12] = .error (.opcodeNotAdmitted 0x12) := by rfl

/-- R90. -/
theorem test_decode_refuses_short :
    decode plainCfg false [0x32, 0xAC] = .error .tooShort ∧ decode plainCfg false [] = .error .tooShort := by exact ⟨rfl, rfl⟩

/-- R94: the header 0x32, 0xAC, 0x00. -/
theorem test_table_word_brightness : decodeTableWord 24 0x32AC00 = some (.brightness [] false) := by decide

/-- R94. -/
theorem test_table_word_version : decodeTableWord 24 0x32AC20 = some (.version [] false) := by decide

/-- R94, with one parameter byte in bits 31..24. -/
theorem test_table_word_with_parameter : decodeTableWord 32 0x8032AC00 = some (.brightness [0x80] false) := by decide

/-- R96(c), with no extra opcode admitted. -/
theorem test_table_word_gap_rejected :
    decodeTableWord 24 0x32AC0A = none ∧ decodeTableWord 24 0x32AC18 = none := by decide

/-- R133, IDLE. -/
theorem test_placed_word_is_the_next_request :
    ((nextOf (step (State.reset.withFetchWord 24 0x32AC05))).map fun t => (t.phase, t.latch)) =
    some (.check, some (.panic [] false)) := by decide

/-- Section 2. -/
theorem test_encode_set_text :
    encode plainCfg (.setText [0x48, 0x49] false) = some [0x32, 0xAC, 0x09, 0x48, 0x49] := by decide

/-- R97: no bit-level encoding. -/
theorem test_encode_none_for_encoder_requests : encode monoCfg (.encFullMono diagonal) = none := by decide

/-! ### The frame each instruction builds in CHECK (spec/95_test_vectors.md section 2) -/

theorem test_frame_brightness : framesOf (.brightness [0x80] false) = some [[0x32, 0xAC, 0x00, 0x80]] := by decide

theorem test_frame_pattern : framesOf (.pattern [0x05] false) = some [[0x32, 0xAC, 0x01, 0x05]] := by decide

theorem test_frame_bootloader_reset : framesOf (.bootloaderReset [] false) = some [[0x32, 0xAC, 0x02]] := by decide

theorem test_frame_sleep : framesOf (.sleep [0x01] false) = some [[0x32, 0xAC, 0x03, 0x01]] := by decide

theorem test_frame_animate : framesOf (.animate [0x00] false) = some [[0x32, 0xAC, 0x04, 0x00]] := by decide

theorem test_frame_panic : framesOf (.panic [] false) = some [[0x32, 0xAC, 0x05]] := by decide

theorem test_frame_draw :
    framesOf (.draw (List.replicate 39 0xFF) false) = some [[0x32, 0xAC, 0x06] ++ List.replicate 39 0xFF] := by decide

theorem test_frame_stage_grey_col :
    framesOf (.stageGreyCol (0x08 :: List.replicate 34 0x00) false) = some [[0x32, 0xAC, 0x07, 0x08] ++ List.replicate 34 0x00] := by
  decide

theorem test_frame_draw_grey_col_buffer :
    framesOf (.drawGreyColBuffer [] false) = some [[0x32, 0xAC, 0x08]] := by decide

theorem test_frame_set_text :
    framesOf (.setText [0x48, 0x49] false) = some [[0x32, 0xAC, 0x09, 0x48, 0x49]] := by decide

theorem test_frame_start_game : framesOf (.startGame [0x01] false) = some [[0x32, 0xAC, 0x10, 0x01]] := by decide

theorem test_frame_game_control : framesOf (.gameControl [0x00] false) = some [[0x32, 0xAC, 0x11, 0x00]] := by decide

theorem test_frame_set_color :
    framesOf (.setColor [0x00, 0x80, 0xFF] false) = some [[0x32, 0xAC, 0x13, 0x00, 0x80, 0xFF]] := by decide

theorem test_frame_display_on : framesOf (.displayOn [0x00] false) = some [[0x32, 0xAC, 0x14, 0x00]] := by decide

theorem test_frame_invert_screen :
    framesOf (.invertScreen [0x01] false) = some [[0x32, 0xAC, 0x15, 0x01]] := by decide

theorem test_frame_set_pixel_column :
    framesOf (.setPixelColumn ([0x2B, 0x01] ++ List.replicate 50 0xFF) false) = some [[0x32, 0xAC, 0x16, 0x2B, 0x01] ++ List.replicate 50 0xFF] := by
  decide

theorem test_frame_flush_framebuffer : framesOf (.flushFramebuffer [] false) = some [[0x32, 0xAC, 0x17]] := by decide

theorem test_frame_screen_saver : framesOf (.screenSaver [0x00] false) = some [[0x32, 0xAC, 0x19, 0x00]] := by decide

theorem test_frame_set_fps : framesOf (.setFps [0x02] false) = some [[0x32, 0xAC, 0x1A, 0x02]] := by decide

theorem test_frame_set_power_mode :
    framesOf (.setPowerMode [0x01] false) = some [[0x32, 0xAC, 0x1B, 0x01]] := by decide

theorem test_frame_version : framesOf (.version [] true) = some [[0x32, 0xAC, 0x20]] := by decide

theorem test_frame_cmd_header_in_params :
    framesOf (.cmd 0x00 [0x32, 0xAC, 0x00] false) = some [[0x32, 0xAC, 0x00, 0x32, 0xAC, 0x00]] := by decide

theorem test_frame_extra_opcode : framesOf (.extraOpcode 0x0C [] false) = some [[0x32, 0xAC, 0x0C]] := by decide

theorem test_frame_mono_stage :
    framesOf (.monoStage 3 #v[0x08, 0x00, 0x00, 0x00, 0x00] false) = some [[0x32, 0xAC, 0x0A, 0x03, 0x08, 0x00, 0x00, 0x00, 0x00]] := by
  decide

theorem test_frame_mono_commit : framesOf (.monoCommit false) = some [[0x32, 0xAC, 0x0B]] := by decide

/-- Program P2, line 1. -/
theorem test_frame_enc_full_mono :
    framesOf (.encFullMono diagonal) =
    some [[0x32, 0xAC, 0x06, 0x01, 0x04, 0x10, 0x40, 0x00, 0x01, 0x04, 0x10, 0x40, 0x00, 0x01] ++ List.replicate 28 0x00] := by
  decide

/-- Section 5, mode 2, the diagonal. -/
theorem test_frames_enc_col_mono :
    (framesOf (.encColMono diagonal)).map (fun fs => (fs.length, fs[0]?, fs[8]?, fs[9]?)) =
    some (10, some [0x32, 0xAC, 0x0A, 0x00, 0x01, 0x00, 0x00, 0x00, 0x00],
      some [0x32, 0xAC, 0x0A, 0x08, 0x00, 0x01, 0x00, 0x00, 0x00], some [0x32, 0xAC, 0x0B]) := by decide

/-- Section 6, all GREY(180). -/
theorem test_frames_enc_col_grey :
    (framesOf (.encColGrey (constMatrix (.grey 180) 9 34))).map (fun fs => (fs.length, fs[8]?, fs[9]?)) =
    some (10, some ([0x32, 0xAC, 0x07, 0x08] ++ List.replicate 34 0x90), some [0x32, 0xAC, 0x08]) := by decide

/-- Vector T22, a 9×34 matrix. -/
theorem test_enc_wide_mono_dimension_error :
    (nextOf (exec (.encWideMono diagonal) (at_ monoCfg .check (.encWideMono diagonal) []))).map
      (fun t => (t.completions, t.log)) = some ([⟨.dimensionError, none, none⟩], []) := by decide

/-! ### The steps of the session (spec/95_test_vectors.md section 3) -/

/-- T3. -/
theorem test_open_fails :
    (nextOf (exec brightness80 (session .opening brightness80 0 [.fail tag7 0]))).map (fun t => (t.completions, t.phase, t.session)) =
    some ([⟨.transportOpen, some tag7, none⟩], .idle, false) := by decide

/-- T4: a prefix of the frame has arrived. -/
theorem test_write_fails :
    (nextOf (exec brightness80 (session .write brightness80 0 [.fail tag7 2]))).map (fun t => (t.err, t.cause, t.phase, t.wire)) =
    some (some .transportWrite, some tag7, .close, [0x32, 0xAC]) := by decide

/-- T5. -/
theorem test_first_error_is_kept :
    (nextOf (exec brightness80
      ((session .close brightness80 0 [.fail tag8 0]).raiseWith .transportWrite tag7))).map (fun t => (t.completions, t.phase, t.session)) =
    some ([⟨.transportWrite, some tag7, none⟩], .idle, false) := by decide

/-- T6. -/
theorem test_read_fails :
    (nextOf (exec versionResp (session .read versionResp 1 [.fail tag7 0]))).map (fun t => (t.err, t.cause, t.rbuf)) =
    some (some .transportRead, some tag7, none) := by decide

/-- T7. -/
theorem test_read_of_nothing_is_short :
    (nextOf (exec versionResp (session .read versionResp 1 [.ok []]))).map (fun t => (t.err, t.cause, t.rbuf)) =
    some (some .transportShortRead, none, none) := by decide

/-- T8. -/
theorem test_read_of_31_is_short :
    (nextOf (exec versionResp (session .read versionResp 1 [.ok (List.replicate 31 0)]))).map (fun t => (t.err, t.rbuf)) =
    some (some .transportShortRead, none) := by decide

/-- T2. -/
theorem test_read_of_32_is_kept :
    (nextOf (exec versionResp (session .read versionResp 1 [.ok ok32]))).map (fun t => (t.err, t.rbuf, t.phase)) =
    some (none, some ok32, .close) := by decide

/-- T9: the 32 bytes are not returned. -/
theorem test_close_fails_after_read :
    (nextOf (exec versionResp
      ((session .close versionResp 1 [.fail tag8 0]).receive ok32))).map State.completions =
    some [⟨.transportClose, some tag8, none⟩] := by decide

/-- T2. -/
theorem test_close_returns_response :
    (nextOf (exec versionResp
      ((session .close versionResp 1 [.ok []]).receive ok32))).map State.completions =
    some [⟨.ok, none, some ok32⟩] := by decide

/-- T11. -/
theorem test_read_never_returns :
    faultOf (exec versionResp (session .read versionResp 1 [.never])) = some (.neverReturns (.read 32)) := by decide

/-- T12. -/
theorem test_read_of_33_has_no_move :
    faultOf (exec versionResp (session .read versionResp 1 [.ok (List.replicate 33 0)])) = some (.overlongRead 33) := by
  decide

/-- T13. -/
theorem test_no_read_unless_asked :
    (nextOf (exec brightness80 (session .write brightness80 1 []))).map State.phase = some .close ∧
    (nextOf (exec versionResp (session .write versionResp 1 []))).map State.phase = some .read := by decide

/-- T14. -/
theorem test_refuses_gap_opcode :
    refusalOf (exec (.cmd 0x0C [] false) (at_ plainCfg .check (.cmd 0x0C [] false) [])) = some (.opcodeNotAdmitted 0x0C) := by
  decide

/-- T16. -/
theorem test_refuses_params_too_long :
    refusalOf (exec (.cmd 0x00 (List.replicate 53 0) false) (at_ plainCfg .check (.cmd 0x00 (List.replicate 53 0) false) [])) =
    some (.paramsTooLong 53) := by decide

/-- T17. -/
theorem test_refuses_bin_in_grey_mode :
    refusalOf (exec (.encColGrey diagonal) (at_ plainCfg .check (.encColGrey diagonal) [])) = some .binaryInGreyMode := by
  decide

/-- T18. -/
theorem test_refuses_mono_unset :
    refusalOf (exec (.encColMono diagonal) (at_ plainCfg .check (.encColMono diagonal) [])) = some .monoOpcodesUnset := by
  decide

/-- T20. -/
theorem test_dimension_error_transposed :
    ((nextOf (exec (.encFullMono (constMatrix (.bin true) 34 9))
      (at_ plainCfg .check (.encFullMono (constMatrix (.bin true) 34 9)) []))).map fun t => (t.completions, t.log, t.phase)) =
    some ([⟨.dimensionError, none, none⟩], [], .idle) := by decide

/-- T21. -/
theorem test_dimension_error_ragged :
    CellMatrix.hasDims (List.replicate 4 (List.replicate 34 (.grey 1)) ++ [List.replicate 33 (.grey 1)] ++
      List.replicate 4 (List.replicate 34 (.grey 1))) 9 34 = false := by decide

/-- T24: the write of stage 4 fails. -/
theorem test_failed_burst_has_no_commit :
    ((nextOf (exec (.encColGrey (constMatrix (.grey 180) 9 34))
      (session .write (.encColGrey (constMatrix (.grey 180) 9 34)) 4 [.fail tag7 3]))).map fun t =>
      (t.phase, t.fidx, t.wire)) = some (.close, 4, [0x32, 0xAC, 0x07]) := by decide

/-- Section 8, R-2. -/
theorem test_reset_in_idle_clears_response :
    (nextOf (step { State.reset with frames := [[0x32, 0xAC, 0x03]], fidx := 1, rbuf := some ok32, resetLine := true })).map
      (fun t => (t.phase, t.latch, t.err, t.rbuf)) = some (.idle, none, none, none) := by decide

/-- Section 8, R-3. -/
theorem test_reset_in_write_is_refused :
    refusalOf (step ((session .write brightness80 0 []).raiseReset)) = some .resetOutsideIdle := by decide

/-! ### The pixel front end (section 4) -/

theorem test_pixel_thresholds :
    ((Cell.rgb 126 127 127).onSmall, (Cell.rgb 126 127 127).onWide, (Cell.rgb 127 127 127).onSmall,
      (Cell.rgb 127 127 127).onWide, (Cell.rgb 128 127 127).onSmall, (Cell.rgb 128 127 127).onWide) =
    (false, true, false, false, true, false) := by decide

theorem test_grey_thresholds :
    ((Cell.grey 127).onSmall, (Cell.grey 128).onSmall, (Cell.grey 126).onWide, (Cell.grey 127).onWide) =
    (false, true, true, false) := by decide

theorem test_grey_curve_of_rgb :
    [Cell.rgb 0 0 1, .rgb 0 1 1, .rgb 10 11 12, .rgb 49 50 50, .rgb 50 50 50, .rgb 255 0 0, .rgb 100 100 101].map Cell.grey? =
    [some 0x00, some 0x01, some 0x16, some 0x63, some 0x32, some 0x55, some 0x32] := by decide

theorem test_grey_curve_of_bright_rgb :
    [Cell.rgb 126 127 127, .rgb 150 150 151, .rgb 200 200 200, .rgb 200 201 200, .rgb 255 255 255].map Cell.grey? =
    [some 0x3F, some 0x78, some 0xA0, some 0xC8, some 0xFF] := by decide

theorem test_grey_curve_of_grey :
    [0, 1, 20, 49, 50, 51, 60, 99, 100, 101, 120].map (fun v => (Cell.grey v).grey?) =
    [some 0x00, some 0x02, some 0x28, some 0x62, some 0x32, some 0x33, some 0x3C, some 0x63, some 0x64, some 0x32, some 0x3C] := by
  decide

theorem test_grey_curve_of_bright_grey :
    [149, 150, 151, 180, 199, 200, 201, 220, 254, 255].map (fun v => (Cell.grey v).grey?) =
    [some 0x4A, some 0x4B, some 0x78, some 0x90, some 0x9F, some 0xA0, some 0xC9, some 0xDC, some 0xFE, some 0xFF] := by
  decide

/-! ### Packing (sections 5, 6, 7) -/

theorem test_pack1_checkerboard : pack1 checkerboard = List.replicate 38 0x55 ++ [0x01] := by decide

theorem test_pack1_all_on : pack1 (constMatrix (.grey 128) 9 34) = List.replicate 38 0xFF ++ [0x03] := by decide

theorem test_pack1_last_row :
    pack1 (byRule 9 34 fun _ y => .bin (y == 33)) = List.replicate 37 0x00 ++ [0xFE, 0x03] := by decide

theorem test_pack_col_all_on :
    packCol Cell.onSmall (constMatrix (.bin true) 9 34) 8 34 = [0xFF, 0xFF, 0xFF, 0xFF, 0x03] := by decide

theorem test_pack_col_even_rows :
    packCol Cell.onSmall (byRule 9 34 fun _ y => .bin (y % 2 == 0)) 0 34 = [0x55, 0x55, 0x55, 0x55, 0x01] := by decide

/-- Section 6. -/
theorem test_grey_col_gradient :
    greyCol (byRule 9 34 fun _ y => .grey (BitVec.ofNat 8 (y + 40))) 0 =
    [0x50, 0x52, 0x54, 0x56, 0x58, 0x5A, 0x5C, 0x5E, 0x60, 0x62, 0x32, 0x33, 0x34, 0x35, 0x36, 0x37, 0x38] ++
      [0x39, 0x3A, 0x3B, 0x3C, 0x3D, 0x3E, 0x3F, 0x40, 0x41, 0x42, 0x43, 0x44, 0x45, 0x46, 0x47, 0x48, 0x49] := by
  decide

/-- Section 7. -/
theorem test_idx16 :
    [0, 1, 255, 256, 299].map idx16 = [[0x00, 0x00], [0x01, 0x00], [0xFF, 0x00], [0x00, 0x01], [0x2B, 0x01]] := by
  decide

/-- Section 7: one column is enough, `wideCol` reads no other. -/
theorem test_wide_col_black_every_eighth_row :
    wideCol (byRule 1 400 fun _ y => if y % 8 = 0 then .rgb 0 0 0 else .rgb 255 255 255) 0 = List.replicate 50 0x01 := by
  decide

/-- Section 7. -/
theorem test_wide_col_last_row :
    wideCol (byRule 1 400 fun _ y => if y = 399 then .rgb 0 0 0 else .rgb 255 255 255) 0 = List.replicate 49 0x00 ++ [0x80] := by
  decide

/-! ### The notation of programs (R100, R101; section 9) -/

/-- Program P1. -/
theorem test_assemble_p1 :
    assemble? [] "BRIGHTNESS [0x80]      ; = CMD  0x00, [0x80]\nVERSION?   []          ; = CMD? 0x20, []".toList =
    some [.brightness [0x80] false, .version [] true] := by decide

/-- R100, R8. -/
theorem test_assemble_cmd_and_matrix :
    assemble? [("D".toList, diagonal)] "CMD? 0b101, [1, 0xFF]\n\nENC.FULL D".toList =
    some [.cmd 0x05 [1, 0xFF] true, .encFullMono diagonal] := by decide

/-- R8. -/
theorem test_assemble_rejects_byte_over_255 : assemble? [] "BRIGHTNESS [256]".toList = none := by decide

/-! ### Witnesses: states and operands that meet the hypotheses of each statement -/

/-- A latched command in each phase of its session: the session invariant holds. -/
theorem inv_in_session (i : Instr) (k : Nat) (replies : List Reply) (hw : i.wellFormed monoCfg = true)
    (hd : i.dimsOk monoCfg = true) (hk : k ≤ (i.frames monoCfg).length) : (session .write i k replies).Inv where
  latched := by simp [session, at_]
  sessionOpen := rfl
  framesBuilt := fun _ => ⟨i, rfl, rfl, hw, hd⟩
  indexBound := fun _ => hk
  readAfterWrites := by simp [session, at_]
  closeClean := by simp [session, at_]
  responseLength := by simp [session, at_, State.reset]
  errorCode := by simp [session, at_, State.reset]
  cleanBefore := fun _ _ => ⟨rfl, rfl⟩
  causeWithTransport := by simp [session, at_, State.reset]

theorem witness_EveryWrittenFrameStartsWithMagic_frames :
    [0x32, 0xAC, 0x05] ∈ Instr.frames monoCfg panicCmd := by decide

theorem witness_EveryWrittenFrameStartsWithMagic_call :
    ∃ t, (session .write panicCmd 0 [.ok []]).Inv ∧ step (session .write panicCmd 0 [.ok []]) = .next t ∧
    t.log = (session .write panicCmd 0 [.ok []]).log ++ [(.write [0x32, 0xAC, 0x05], .ok [])] :=
  ⟨_, inv_in_session _ _ _ (by decide) (by decide) (by decide), rfl, rfl⟩

theorem witness_DecodingAnEncodedCommandGivesItBack :
    Instr.canonical monoCfg (.setText [0x48, 0x49] true) = true ∧
    Instr.canonical monoCfg (.extraOpcode 0x0C [] false) = true ∧
    Instr.canonical monoCfg (.monoStage 8 #v[1, 2, 3, 4, 5] false) = true ∧ Instr.canonical monoCfg (.monoCommit true) = true := by
  decide

theorem witness_EncodingADecodedFrameGivesItBack :
    decode monoCfg true [0x32, 0xAC, 0x20] = .ok versionResp ∧
    decode monoCfg false [0x32, 0xAC, 0x0B, 0x00] = .ok (.extraOpcode 0x0B [0x00] false) := ⟨rfl, rfl⟩

theorem witness_DecoderAcceptsExactlyAdmittedFrames :
    Config.admits plainCfg 0x0C = false ∧ ([0x32, 0xAC] : List Byte).length < 3 := by decide

/-- As `monoCfg`, without the stage opcode among the admitted ones. -/
def stageNotAdmitted : Config := { monoCfg with extraOpcodes := [0x0B] }

/-- As `monoCfg`, without the commit opcode among the admitted ones. -/
def commitNotAdmitted : Config := { monoCfg with extraOpcodes := [0x0A] }

theorem witness_IllFormedRequestsAreRefusedByName :
    (at_ plainCfg .check panicCmd []).phase = .check ∧
    Instr.wellFormed plainCfg (.monoCommit false) = false ∧
    Config.admits plainCfg 0x0C = false ∧
    (Config.admits plainCfg 0x00 = true ∧ Config.fits plainCfg (List.replicate 53 0) = false) ∧
    CellMatrix.uniform mixed = false ∧
    (CellMatrix.uniform diagonal = true ∧ plainCfg.monoStageOp = none ∧ plainCfg.monoCommitOp = none) ∧
    CellMatrix.noBin diagonal = false := by decide

theorem witness_IllFormedRequestsAreRefusedByName_listed_opcode :
    ∃ row, row ∈ opcodeTable ∧ Config.fits plainCfg (List.replicate 53 0) = false := ⟨_, List.mem_cons_self, by decide⟩

/-- R99(b): the opcodes are given, one of them is not admitted. -/
theorem witness_IllFormedRequestsAreRefusedByName_mono_opcodes :
    CellMatrix.uniform diagonal = true ∧
    (stageNotAdmitted.monoStageOp = some 0x0A ∧ stageNotAdmitted.monoCommitOp = some 0x0B ∧
      Config.admits stageNotAdmitted 0x0A = false) ∧
    (commitNotAdmitted.monoStageOp = some 0x0A ∧ commitNotAdmitted.monoCommitOp = some 0x0B ∧
      Config.admits commitNotAdmitted 0x0A = true ∧ Config.admits commitNotAdmitted 0x0B = false) := by decide

/-- Six parameter bytes against a bound of five. -/
theorem witness_IllFormedRequestsAreRefusedByName_stage_too_long :
    Config.admits { monoCfg with maxParamLen := some 5 } 0x0A = true ∧
    Config.fits { monoCfg with maxParamLen := some 5 }
      (BitVec.ofNat 8 (8 : Fin 9).val :: (#v[1, 2, 3, 4, 5] : Vector Byte 5).toList) = false := by decide

theorem witness_AcceptLatchesTheRequest : State.reset.phase = .idle := by decide

theorem witness_CommandsZeroToNineBuildTheirFrame :
    (at_ plainCfg .check panicCmd []).phase = .check ∧ Config.fits plainCfg (List.replicate 52 0x41) = true := by decide

theorem witness_CommandsFromTenHexBuildTheirFrame :
    (at_ Config.atReset .check versionResp []).phase = .check ∧ Config.fits Config.atReset (List.replicate 60 0x41) = true := by
  decide

theorem witness_CmdAndParameterOpcodesBuildTheirFrame :
    (at_ monoCfg .check panicCmd []).phase = .check ∧
    (Config.admits monoCfg 0x0C = true ∧ Config.fits monoCfg [1] = true) ∧
    (monoCfg.monoStageOp = some 0x0A ∧ Config.admits monoCfg 0x0A = true ∧
      Config.fits monoCfg (BitVec.ofNat 8 (8 : Fin 9).val :: (#v[1, 2, 3, 4, 5] : Vector Byte 5).toList) = true) ∧
    (monoCfg.monoCommitOp = some 0x0B ∧ Config.admits monoCfg 0x0B = true) := by decide

theorem witness_FullMonoBuildsOneDrawFrame :
    (at_ plainCfg .check (.encFullMono diagonal) []).phase = .check ∧ CellMatrix.uniform diagonal = true ∧
    CellMatrix.hasDims diagonal 9 34 = true := by decide

theorem witness_ModeOneSendsOneDrawCommand : ∃ c, c ∈ enc1 diagonal := ⟨_, List.mem_singleton.mpr rfl⟩

theorem witness_ColMonoBuildsNineStagesAndACommit :
    (at_ monoCfg .check (.encColMono diagonal) []).phase = .check ∧
    monoCfg.monoStageOp = some 0x0A ∧ monoCfg.monoCommitOp = some 0x0B ∧ Config.admits monoCfg 0x0A = true ∧
    Config.admits monoCfg 0x0B = true ∧ CellMatrix.uniform diagonal = true ∧ CellMatrix.hasDims diagonal 9 34 = true := by
  decide

theorem witness_ColGreyBuildsNineStagesAndACommit :
    CellMatrix.uniform (constMatrix (.rgb 1 2 3) 9 34) = true ∧
    CellMatrix.noBin (constMatrix (.rgb 1 2 3) 9 34) = true ∧ CellMatrix.hasDims (constMatrix (.rgb 1 2 3) 9 34) 9 34 = true ∧
    (at_ plainCfg .check (.encColGrey (constMatrix (.rgb 1 2 3) 9 34)) []).phase = .check := by decide

theorem witness_WideMonoBuildsThreeHundredStagesAndAFlush :
    (at_ plainCfg .check (.encWideMono (constMatrix (.grey 126) 300 400)) []).phase = .check ∧
    CellMatrix.uniform (constMatrix (.grey 126) 300 400) = true ∧
    CellMatrix.hasDims (constMatrix (.grey 126) 300 400) 300 400 = true :=
  ⟨rfl, by simp [CellMatrix.uniform, CellMatrix.allOfKind, constMatrix, Cell.kind],
    by simp [CellMatrix.hasDims, constMatrix]⟩

theorem witness_WrongGeometryCompletesWithDimensionError :
    (at_ monoCfg .check (.encFullMono (constMatrix (.grey 1) 9 33)) []).phase = .check ∧
    CellMatrix.uniform (constMatrix (.grey 1) 9 33) = true ∧ CellMatrix.hasDims (constMatrix (.grey 1) 9 33) 9 34 = false ∧
    Config.monoConfigured monoCfg = true ∧ CellMatrix.noBin (constMatrix (.grey 1) 9 33) = true ∧
    CellMatrix.hasDims (constMatrix (.grey 1) 9 33) 300 400 = false := by decide

theorem witness_OpenStartsTheSessionOrCompletes :
    (session .opening panicCmd 0 [.ok []]).phase = .opening ∧
    (session .opening panicCmd 0 [.ok []]).reply = .ok [] ∧
    (session .opening panicCmd 0 [.fail tag7 0]).reply = .fail tag7 0 := by decide

theorem witness_WriteSendsTheNextFrame :
    (session .write panicCmd 1 []).fidx = (session .write panicCmd 1 []).frames.length ∧
    (session .write panicCmd 0 [.ok []]).phase = .write ∧
    (session .write panicCmd 0 [.ok []]).fidx ≠ (session .write panicCmd 0 [.ok []]).frames.length ∧
    (session .write panicCmd 0 [.ok []]).frames[0]? = some [0x32, 0xAC, 0x05] ∧
    (session .write panicCmd 0 [.ok []]).reply = .ok [] ∧ (session .write panicCmd 0 [.fail tag7 1]).reply = .fail tag7 1 := by
  decide

theorem witness_ReadKeepsExactlyThirtyTwoBytes :
    (session .read versionResp 1 [.ok ok32]).phase = .read ∧ (session .read versionResp 1 [.ok ok32]).reply = .ok ok32 ∧
    ok32.length = 32 ∧ (List.replicate 31 (0 : Byte)).length < 32 ∧ 32 < (List.replicate 33 (0 : Byte)).length ∧
    (session .read versionResp 1 [.fail tag7 0]).reply = .fail tag7 0 := by decide

theorem witness_CloseEndsTheSessionAndCompletes :
    (session .close versionResp 1 [.ok []]).phase = .close ∧ (session .close versionResp 1 [.ok []]).err = none ∧
    (session .close versionResp 1 [.ok []]).reply = .ok [] ∧ (session .close versionResp 1 [.fail tag7 0]).reply = .fail tag7 0 ∧
    ((session .close versionResp 1 [.ok []]).raiseWith .transportWrite tag7).err = some .transportWrite ∧
    Code.transportWrite ≠ .ok ∧ ((session .close versionResp 1 [.ok []]).raiseWith .transportWrite tag7).reply ≠ .never := by
  decide

/-- VERSION with a response asked for, before its read. -/
def beforeRead (b : List Byte) : State := session .read versionResp 1 [.ok b, .ok []]

theorem inv_beforeRead (b : List Byte) : (beforeRead b).Inv where
  latched := by simp [beforeRead, session, at_]
  sessionOpen := rfl
  framesBuilt := fun _ => ⟨_, rfl, rfl, rfl, rfl⟩
  indexBound := fun _ => Nat.le_refl 1
  readAfterWrites := fun _ => ⟨rfl, _, rfl, rfl⟩
  closeClean := by simp [beforeRead, session, at_]
  responseLength := by simp [beforeRead, session, at_, State.reset]
  errorCode := by simp [beforeRead, session, at_, State.reset]
  cleanBefore := fun _ _ => ⟨rfl, rfl⟩
  causeWithTransport := by simp [beforeRead, session, at_, State.reset]

theorem witness_ShortReadIsReportedAndItsBytesDropped :
    (beforeRead []).Inv ∧ (beforeRead []).resetLine = false ∧ (beforeRead []).phase = .read ∧
    (beforeRead []).replies = [.ok [], .ok []] ∧ ([] : List Byte).length < 32 ∧ Reply.ok [] ≠ .never :=
  ⟨inv_beforeRead [], rfl, rfl, rfl, by decide, by decide⟩

theorem witness_ACallThatNeverReturnsIsStuck :
    (session .write panicCmd 0 [.never]).reply = .never ∧ (session .write panicCmd 0 [.never]).phase = .write ∧
    (session .write panicCmd 0 [.never]).fidx ≠ (session .write panicCmd 0 [.never]).frames.length ∧
    (session .write panicCmd 0 [.never]).frames[0]? = some [0x32, 0xAC, 0x05] ∧
    (session .opening panicCmd 0 [.never]).reply = .never ∧ (session .read versionResp 1 [.never]).reply = .never ∧
    (session .close panicCmd 1 [.never]).reply = .never := by decide

theorem witness_EachPhaseLeavesTheRestUnchanged_idle :
    ∃ t, exec panicCmd (State.reset) = .next t ∧ (State.reset).phase = .idle := ⟨_, rfl, rfl⟩

theorem witness_EachPhaseLeavesTheRestUnchanged_check :
    ∃ t, exec panicCmd (at_ monoCfg .check panicCmd []) = .next t ∧ (at_ monoCfg .check panicCmd []).phase = .check := ⟨_, rfl, rfl⟩

theorem witness_EachPhaseLeavesTheRestUnchanged_opening :
    ∃ t, exec panicCmd (session .opening panicCmd 0 [.ok []]) = .next t ∧ (session .opening panicCmd 0 [.ok []]).phase = .opening := ⟨_, rfl, rfl⟩

theorem witness_EachPhaseLeavesTheRestUnchanged_write :
    ∃ t, exec panicCmd (session .write panicCmd 0 [.ok []]) = .next t ∧ (session .write panicCmd 0 [.ok []]).phase = .write := ⟨_, rfl, rfl⟩

theorem witness_EachPhaseLeavesTheRestUnchanged_read :
    ∃ t, exec versionResp (session .read versionResp 1 [.ok ok32]) = .next t ∧ (session .read versionResp 1 [.ok ok32]).phase = .read := ⟨_, rfl, rfl⟩

theorem witness_EachPhaseLeavesTheRestUnchanged_close :
    ∃ t, exec panicCmd (session .close panicCmd 1 [.ok []]) = .next t ∧ (session .close panicCmd 1 [.ok []]).phase = .close := ⟨_, rfl, rfl⟩

theorem witness_EachPhaseLeavesTheRestUnchanged_failures :
    ∃ t u v, exec (.encFullMono []) (at_ monoCfg .check (.encFullMono []) []) = .next t ∧ t.phase = .idle ∧
    exec panicCmd (session .opening panicCmd 0 [.fail tag7 0]) = .next u ∧ u.phase = .idle ∧
    exec panicCmd (session .write panicCmd 0 [.fail tag7 0]) = .next v ∧ v.phase = .close :=
  ⟨_, _, _, rfl, rfl, rfl, rfl, rfl, rfl⟩

theorem witness_ObservationsOnlyGrow : ∃ t, step (session .write panicCmd 0 [.ok []]) = .next t := ⟨_, rfl⟩

theorem witness_OneCompletionWhenARequestEnds :
    ∃ t u v, step State.reset = .next t ∧ step (session .write panicCmd 0 [.ok []]) = .next u ∧ u.phase ≠ .idle ∧
    step (session .close panicCmd 1 [.ok []]) = .next v ∧ v.phase = .idle :=
  ⟨_, _, _, rfl, rfl, by decide, rfl, rfl⟩

theorem witness_StepKeepsTheSessionInvariant :
    ∃ t, (session .write panicCmd 0 [.fail tag7 2]).Inv ∧ step (session .write panicCmd 0 [.fail tag7 2]) = .next t :=
  ⟨_, inv_in_session _ _ _ (by decide) (by decide) (by decide), rfl⟩

/-- PANIC after its successful open, before its write. -/
def afterOpen : State :=
  { session .write panicCmd 0 [.ok []] with log := [(.openSession, .ok [])] }

theorem witness_StepKeepsTheCallOrder :
    ∃ t, afterOpen.Inv ∧ afterOpen.LogInOrder ∧ step afterOpen = .next t := by
  have h := inv_in_session panicCmd 0 [.ok []] (by decide) (by decide) (by decide)
  exact ⟨_, ⟨h.1, h.2, h.3, h.4, h.5, h.6, h.7, h.8, h.9, h.10⟩,
    ⟨fun _ => ⟨[], _, rfl, [], [], rfl, rfl⟩, by simp [afterOpen, session, at_], by simp [afterOpen, session, at_]⟩, rfl⟩

/-- A state in IDLE with one request waiting and a transport that answers `replies`. -/
def waitingFor (i : Instr) (replies : List Reply) : State :=
  { State.reset with cfg := monoCfg, waiting := [[i]], replies := replies }

theorem witness_AWorkingTransportServesEveryRequest :
    (waitingFor versionResp (okReplies 1 (some ok32))).phase = .idle ∧
    (waitingFor versionResp (okReplies 1 (some ok32))).resetLine = false ∧
    pick (Config.schedule 0) (waitingFor versionResp (okReplies 1 (some ok32))).waiting = some (.version [] true, [[]]) ∧
    Instr.wellFormed monoCfg versionResp = true ∧ Instr.dimsOk monoCfg versionResp = true ∧
    (some ok32).isSome = Instr.resp monoCfg versionResp ∧ ok32.length = 32 ∧
    (waitingFor versionResp (okReplies 1 (some ok32))).replies = okReplies (Instr.frames monoCfg versionResp).length (some ok32) ++ [] :=
  ⟨rfl, rfl, rfl, rfl, rfl, rfl, rfl, rfl⟩

theorem witness_AWorkingTransportServesEveryRequest_no_response :
    Instr.wellFormed monoCfg (.encColMono diagonal) = true ∧ Instr.dimsOk monoCfg (.encColMono diagonal) = true ∧
    (none : Option (List Byte)).isSome = Instr.resp monoCfg (.encColMono diagonal) ∧
    (Instr.frames monoCfg (.encColMono diagonal)).length = 10 := by decide

theorem witness_AFailedWriteEndsTheRequest :
    (waitingFor panicCmd [.ok [], .fail tag7 2, .fail tag8 0]).phase = .idle ∧
    (waitingFor panicCmd [.ok [], .fail tag7 2, .fail tag8 0]).resetLine = false ∧
    pick (Config.schedule 0) (waitingFor panicCmd [.ok [], .fail tag7 2, .fail tag8 0]).waiting = some (.panic [] false, [[]]) ∧
    Instr.wellFormed monoCfg panicCmd = true ∧ Instr.dimsOk monoCfg panicCmd = true ∧
    (Instr.frames monoCfg panicCmd)[0]? = some [0x32, 0xAC, 0x05] ∧ Reply.fail tag8 0 ≠ .never ∧
    (waitingFor panicCmd [.ok [], .fail tag7 2, .fail tag8 0]).replies =
      List.replicate (0 + 1) (.ok []) ++ .fail tag7 2 :: .fail tag8 0 :: [] :=
  ⟨rfl, rfl, rfl, rfl, rfl, rfl, by decide, rfl⟩

/-- A burst of ten frames waiting, whose write of column 4 fails. -/
def burstThatFails : State :=
  waitingFor (.encColMono diagonal) (List.replicate 5 (.ok []) ++ [.fail tag7 3, .ok []])

/-- A failure in the middle: k = 4. -/
theorem witness_AFailedWriteEndsTheRequest_in_a_burst :
    burstThatFails.phase = .idle ∧ burstThatFails.resetLine = false ∧
    pick (Config.schedule 0) burstThatFails.waiting = some (.encColMono diagonal, [[]]) ∧
    Instr.wellFormed monoCfg (.encColMono diagonal) = true ∧ Instr.dimsOk monoCfg (.encColMono diagonal) = true ∧
    (Instr.frames monoCfg (.encColMono diagonal))[4]? = some [0x32, 0xAC, 0x0A, 0x04, 0x10, 0x00, 0x00, 0x00, 0x00] ∧
    Reply.ok [] ≠ .never ∧
    burstThatFails.replies = List.replicate (4 + 1) (.ok []) ++ .fail tag7 3 :: .ok [] :: [] :=
  ⟨rfl, rfl, rfl, by decide, by decide, by decide, by decide, rfl⟩

/-- Two states that differ in what IDLE does not read. -/
theorem witness_NothingStaleIsRead :
    State.AgreeOnLive State.reset { State.reset with frames := [[0x32]], fidx := 5, rbuf := some ok32 } :=
  ⟨rfl, rfl, rfl, rfl, rfl, rfl, rfl, rfl, rfl, by simp [State.reset, Phase.built], by simp [State.reset, Phase.inSession],
    by simp [State.reset]⟩

theorem witness_StepContinuesTheLatchedRequest :
    (session .write panicCmd 0 []).resetLine = false ∧ (session .write panicCmd 0 []).phase ≠ .idle ∧
    (session .write panicCmd 0 []).latch = some panicCmd := by decide

theorem witness_StepAcceptsTheChosenRequest :
    (waitingFor panicCmd []).resetLine = false ∧ (waitingFor panicCmd []).phase = .idle ∧
    pick (Config.schedule 0) (waitingFor panicCmd []).waiting = some (.panic [] false, [[]]) ∧
    (∀ q ∈ State.reset.waiting, q = []) := ⟨rfl, rfl, rfl, by decide⟩

theorem witness_StepRunsThePlacedWord : decodeTableWord 24 0x32AC17 = some (.flushFramebuffer [] false) := by decide

theorem witness_TheChoiceTakesOneWaitingRequest :
    pick 1 [[versionResp, panicCmd], [], [brightness80]] = some (.brightness [0x80] false, [[versionResp, panicCmd], [], []]) := by
  decide

theorem witness_ARequestPresentedWhileBusyIsHeld :
    ∃ t, (session .write panicCmd 0 [.ok []]).resetLine = false ∧ (session .write panicCmd 0 [.ok []]).phase ≠ .idle ∧
    step (session .write panicCmd 0 [.ok []]) = .next t := ⟨_, rfl, by decide, rfl⟩

theorem witness_ResetIsTakenInIdleOnly :
    State.reset.raiseReset.resetLine = true ∧ State.reset.raiseReset.phase = .idle ∧
    (session .write panicCmd 0 []).raiseReset.resetLine = true ∧ (session .write panicCmd 0 []).raiseReset.phase ≠ .idle := by
  decide

/-- The threshold and its neighbours. -/
theorem witness_OnTestsCompareTheExactAverage :
    (Cell.grey 127).avg? = some 127 ∧ (Cell.rgb 128 127 127).avg? = some (382 / 3) ∧
    (Cell.rgb 126 127 127).avg? = some (380 / 3) := by
  refine ⟨?_, by simp [Cell.avg?, Cell.sum?], by simp [Cell.avg?, Cell.sum?]⟩
  simp [Cell.avg?, Cell.sum?]
  norm_num

theorem witness_GreyscaleIsTheFlooredRationalCurve :
    (Cell.rgb 200 201 200).avg? = some (601 / 3) := by
  simp [Cell.avg?, Cell.sum?]

/-- R196 at each end of its bands (section 4). -/
theorem witness_GreyscaleCurveBandsAndVectors :
    [149, 150, 300, 301, 450, 451, 600, 601, 765].map curve = [99, 50, 100, 50, 75, 120, 160, 200, 255] := by decide

theorem witness_UnpackingTheFullFrameGivesTheMatrix :
    CellMatrix.hasDims checkerboard 9 34 = true ∧ CellMatrix.allOfKind checkerboard .bin = true := by decide

theorem witness_FrameAndByteCounts :
    Config.monoConfigured monoCfg = true ∧ CellMatrix.hasDims (constMatrix (.grey 7) 9 34) 9 34 = true ∧
    CellMatrix.noBin (constMatrix (.grey 7) 9 34) = true := by decide

theorem witness_FullFrameBitIsTheCellsOnTest :
    (8 < 9 ∧ 33 < 34 ∧ checkerboard.onAt Cell.onSmall 8 32 = true ∧ checkerboard.onAt Cell.onSmall 8 33 = false) ∧
    306 ≤ 311 ∧ 311 < 312 := by decide

theorem witness_GreyColumnByteIsTheCellsIntensity :
    CellMatrix.hasDims (constMatrix (.grey 7) 9 34) 9 34 = true ∧ CellMatrix.noBin (constMatrix (.grey 7) 9 34) = true ∧
    8 < 9 ∧ 33 < 34 := by decide

/-- Also of FullFrameBitIsTheCellsOnTest: x = 8, y = 8. -/
theorem witness_ColumnBitIsTheCellsOnTest_cell :
    ∃ col, diagonal[8]? = some col ∧ col[8]? = some (.bin true) ∧ 8 < 34 := ⟨_, rfl, rfl, by decide⟩

theorem witness_ColumnBitIsTheCellsOnTest :
    33 < 34 ∧ 34 ≤ 34 ∧ checkerboard.onAt Cell.onSmall 1 33 = true := by decide

theorem witness_ColumnIndexIsLittleEndian : 0 ≤ 299 ∧ 299 ≤ 299 ∧ idx16 299 = [43, 1] := by decide

theorem witness_AListedOpcodeServesAsItsCmd :
    ∃ row, row ∈ opcodeTable ∧ (at_ monoCfg .check panicCmd []).phase ≠ .idle := ⟨_, List.mem_cons_self, by decide⟩

end Sys2Proof.Tests
end

section
/-! PROOF. The cell a matrix of known dimensions has at each place, its intensity where no cell is BIN, and the bytes of
a greyscale column (spec/43_encode_grey.md R251). -/

namespace Sys2Proof

/-- A matrix of dimensions `w` by `h` has a cell at each place within them (R11, R61, R301). -/
theorem CellMatrix.exists_cell_of_hasDims {m : CellMatrix} {w h x y : Nat} (hm : m.hasDims w h = true) (hx : x < w)
    (hy : y < h) : ∃ col c, m[x]? = some col ∧ col[y]? = some c := by
  obtain ⟨hw, hcols⟩ : m.length = w ∧ ∀ col ∈ m, col.length = h := by simpa [hasDims] using hm
  have hx' : x < m.length := hw ▸ hx
  have hy' : y < m[x].length := hcols _ (List.getElem_mem hx') ▸ hy
  exact ⟨m[x], m[x][y], List.getElem?_eq_getElem hx', List.getElem?_eq_getElem hy'⟩

/-- The check of R99(c) is a check of every cell (R198). -/
theorem CellMatrix.kind_ne_bin_of_noBin {m : CellMatrix} {x y : Nat} {col : List Cell} {c : Cell}
    (hm : m.noBin = true) (hx : m[x]? = some col) (hy : col[y]? = some c) : c.kind ≠ .bin := by
  have hall : ∀ col ∈ m, ∀ c ∈ col, c.kind ≠ .bin := by simpa [noBin] using hm
  exact hall col (List.mem_of_getElem? hx) c (List.mem_of_getElem? hy)

/-- Only a BIN cell lacks an intensity (R191, R195, R198). -/
theorem Cell.exists_grey?_of_kind_ne_bin : ∀ {c : Cell}, c.kind ≠ .bin → ∃ v, c.grey? = some v
  | .bin _, h => absurd rfl h
  | .grey _, _ => ⟨_, rfl⟩
  | .rgb _ _ _, _ => ⟨_, rfl⟩

/-- What the checks of CHECK give mode 3: a cell with an intensity at each place of the matrix (R99(c), R301). -/
theorem CellMatrix.exists_cell_grey? {m : CellMatrix} {w h x y : Nat} (hm : m.hasDims w h = true)
    (hb : m.noBin = true) (hx : x < w) (hy : y < h) :
    ∃ col c v, m[x]? = some col ∧ col[y]? = some c ∧ c.grey? = some v := by
  obtain ⟨col, c, hcol, hc⟩ := exists_cell_of_hasDims hm hx hy
  obtain ⟨v, hv⟩ := Cell.exists_grey?_of_kind_ne_bin (kind_ne_bin_of_noBin hb hcol hc)
  exact ⟨col, c, v, hcol, hc, hv⟩

/-- The intensity at a place is that of the cell there (R11, R61). -/
theorem CellMatrix.cell?_bind_grey? {m : CellMatrix} {x y : Nat} {col : List Cell} {c : Cell} {v : Byte}
    (hx : m[x]? = some col) (hy : col[y]? = some c) (hv : c.grey? = some v) :
    (m.cell? x y).bind Cell.grey? = some v := by
  rw [cell?_of_getElem? hx hy, Option.bind_some, hv]

/-- Where every row has an intensity, `greyCol` skips none (R251). -/
theorem greyCol_eq_map {m : CellMatrix} {x : Nat} {v : Nat → Byte}
    (hv : ∀ y < Param.smallHeight, (m.cell? x y).bind Cell.grey? = some (v y)) :
    greyCol m x = (List.range Param.smallHeight).map v :=
  List.filterMap_eq_map_iff_forall_eq_some.mpr fun y hy => hv y (List.mem_range.mp hy)

/-- Settles O51: every row of the column has an intensity, so `greyCol` skips none and its byte y is that of row y. -/
theorem greyColumnByteIsTheCellsIntensity : Obligations.GreyColumnByteIsTheCellsIntensity := by
  intro m x hm hb hx
  have hcell : ∀ y < 34, ∃ col c v, m[x]? = some col ∧ col[y]? = some c ∧ c.grey? = some v :=
    fun _ hy => m.exists_cell_grey? hm hb hx hy
  have hrow : ∀ y < 34, ∃ v, (m.cell? x y).bind Cell.grey? = some v := by
    intro y hy
    obtain ⟨col, c, v, hcol, hc, hv⟩ := hcell y hy
    exact ⟨v, CellMatrix.cell?_bind_grey? hcol hc hv⟩
  choose! v hv using hrow
  have hbytes : greyCol m x = (List.range 34).map v := greyCol_eq_map hv
  have hbyte : ∀ y < 34, (greyCol m x)[y]? = (m.cell? x y).bind Cell.grey? := by
    intro y hy
    simp [hbytes, hy, hv]
  refine ⟨by simp [hbytes], hbyte, fun y hy => ?_⟩
  obtain ⟨col, c, w, hcol, hc, hw⟩ := hcell y hy
  exact ⟨col, c, w, hcol, hc, hw, (hbyte y hy).trans (CellMatrix.cell?_bind_grey? hcol hc hw)⟩

end Sys2Proof
end

section
/-! PROOF. The phases of a session, the state after reset, the accept of a request in IDLE, the step of a latched
request, and what each phase's step leaves unchanged (spec/10_state.md R30, R41, R43). -/

namespace Sys2Proof.Machine

theorem Phase.built_of_inSession {p : Phase} (hp : p.inSession = true) : p.built = true := by
  cases p <;> simp_all [Phase.built, Phase.inSession]

theorem Phase.ne_idle_of_inSession {p : Phase} (hp : p.inSession = true) : p ≠ .idle := by
  rintro rfl
  cases hp

/-- In IDLE the step of every instruction accepts it (R133). -/
theorem exec_of_idle {s : State} (i : Instr) (hp : s.phase = .idle) : exec i s = .next (s.accept i) := by
  rw [exec_eq_serve, serve, hp]

/-- Outside IDLE, with no reset applied, the latched request goes on (R32). -/
theorem step_of_latched {s : State} {i : Instr} (hr : s.resetLine = false) (hp : s.phase ≠ .idle)
    (hl : s.latch = some i) : step s = exec i s := by
  simp [step, hr, nextMove_of_latched hp hl]

/-- Settles O9: the accept of R133 is that update, whatever the instruction. -/
theorem acceptLatchesTheRequest : Obligations.AcceptLatchesTheRequest :=
  fun i _ hp => exec_of_idle i hp

/-- Settles O34: outside IDLE the next move is the latched instruction's. -/
theorem stepContinuesTheLatchedRequest : Obligations.StepContinuesTheLatchedRequest :=
  fun _ _ => step_of_latched

/-- Settles O40: each value is the one `State.reset` holds (R43). -/
theorem resetLeavesTheResetValues : Obligations.ResetLeavesTheResetValues :=
  ⟨rfl, rfl, rfl, rfl, rfl, rfl, rfl, rfl, rfl⟩

/-- Settles O25: what a phase's step answers is one of a few updates of the state, and each update writes its own
elements only. -/
theorem eachPhaseLeavesTheRestUnchanged : Obligations.EachPhaseLeavesTheRestUnchanged := by
  intro i s t h
  rw [exec_eq_serve] at h
  obtain ⟨hp, rfl⟩ | ⟨hp, h⟩ | ⟨hp, h⟩ | ⟨hp, h⟩ | ⟨hp, h⟩ | ⟨hp, h⟩ := serve_next h
  · simp [hp]
  · obtain ⟨r, -, -, ⟨-, rfl⟩ | ⟨-, rfl⟩⟩ := checkStep_next h <;> simp [hp]
  · obtain ⟨b, -, rfl⟩ | ⟨c, n, -, rfl⟩ := openStep_next h <;> simp [hp]
  · obtain ⟨-, rfl⟩ | ⟨-, f, -, ⟨b, -, rfl⟩ | ⟨c, n, -, rfl⟩⟩ := writeStep_next h <;> simp [hp]
  · obtain ⟨b, -, -, rfl⟩ | ⟨b, -, -, rfl⟩ | ⟨c, n, -, rfl⟩ := readStep_next h <;> simp [hp]
  · obtain ⟨b, -, rfl⟩ | ⟨c, n, -, ⟨he, rfl⟩ | ⟨-, rfl⟩⟩ := closeStep_next h
    · simp [hp]
    · simp [hp, he]
    · simp [hp]

end Sys2Proof.Machine
end

section
/-! PROOF. The number of frames of a request and of the bytes they hold (spec/10_state.md R33, R348). -/

namespace Sys2Proof

@[simp] theorem frameOf_length (op : Byte) (p : List Byte) : (frameOf op p).length = 3 + p.length := by
  simp only [frameOf, List.length_cons]
  omega

@[simp] theorem Request.frames_length (cfg : Config) (r : Request) :
    (r.frames cfg).length = (r.commands cfg).length := by
  simp [Request.frames]

/-- The bytes of the frames of a command list: three header bytes a command, then its parameters (R131). -/
def byteCount (cs : List (Byte × List Byte)) : Nat := (cs.map fun c => 3 + c.2.length).sum

theorem Request.frames_byteCount (cfg : Config) (r : Request) :
    ((r.frames cfg).map List.length).sum = byteCount (r.commands cfg) := by
  simp [Request.frames, byteCount, Function.comp_def]

/-- A burst of `n` stage commands with `k` parameters each, then a commit without any. -/
theorem byteCount_burst {n k : Nat} (stage commit : Byte) {params : Nat → List Byte}
    (hk : ∀ x < n, (params x).length = k) :
    byteCount ((List.range n).map (fun x => (stage, params x)) ++ [(commit, [])]) = n * (3 + k) + 3 := by
  have hmap : (List.range n).map (fun x => 3 + (params x).length) = List.replicate n (3 + k) :=
    List.eq_replicate_iff.mpr ⟨by simp, by simp +contextual [hk]⟩
  simp [byteCount, Function.comp_def, hmap]

/-- Mode 2 sends the burst of `Enc2` where both its opcodes are given (R99(b), R226). -/
theorem Request.commands_encColMono {cfg : Config} (m : CellMatrix) (hc : cfg.monoConfigured = true) :
    ∃ stage commit, (Request.encColMono m).commands cfg = enc2 stage commit m := by
  unfold Config.monoConfigured at hc
  split at hc
  · rename_i stage commit hs hm
    exact ⟨stage, commit, by simp [Request.commands, hs, hm]⟩
  · cases hc

theorem greyCol_length {m : CellMatrix} {x : Nat} (hm : m.hasDims 9 34 = true) (hb : m.noBin = true) (hx : x < 9) :
    (greyCol m x).length = 34 :=
  (greyColumnByteIsTheCellsIntensity m x hm hb hx).1

/-- Settles O49: a command is one frame, and each burst is its columns' frames of equal length and a commit. -/
theorem frameAndByteCounts : Obligations.FrameAndByteCounts := by
  intro cfg m op p r
  simp only [Request.frames_length, Request.frames_byteCount]
  refine ⟨⟨rfl, rfl⟩, ⟨rfl, ?_⟩, fun hc => ?_, ⟨?_, fun hm hb => ?_⟩, ?_, ?_⟩
  · simp [Request.commands, enc1, byteCount, Param.fullLen]
  · obtain ⟨stage, commit, h⟩ := Request.commands_encColMono m hc
    rw [h]
    exact ⟨by simp [enc2], byteCount_burst (n := 9) (k := 6) _ _ (by simp [Param.smallHeight])⟩
  · simp [Request.commands, enc3]
  · exact byteCount_burst (n := 9) (k := 35) _ _ fun x hx => by simp [greyCol_length hm hb hx]
  · simp [Request.commands, enc4]
  · exact byteCount_burst (n := 300) (k := 52) _ _ fun x _ => by simp [idx16, wideCol, Param.wideHeight]

end Sys2Proof
end

section
/-! PROOF. The check of CHECK finds a reason to refuse a request exactly where R99 fails (spec/30_encoding.md R99,
spec/60_exceptions.md R305). -/

namespace Sys2Proof.Machine

theorem commandRefusal?_eq_none {cfg : Config} {op : Byte} {params : List Byte} :
    commandRefusal? cfg op params = none ↔ cfg.admits op = true ∧ cfg.fits params = true := by
  unfold commandRefusal?
  split <;> simp_all

theorem matrixRefusal?_eq_none {m : CellMatrix} : matrixRefusal? m = none ↔ m.uniform = true := by
  simp [matrixRefusal?]

theorem monoRefusal?_eq_none {cfg : Config} : monoRefusal? cfg = none ↔ cfg.monoConfigured = true := by
  unfold monoRefusal? Config.monoConfigured
  split
  · split <;> simp_all
  · simp

/-- The reasons of R305 and the check of R99 agree on every request. -/
theorem refusal?_eq_none {cfg : Config} {r : Request} :
    Request.refusal? cfg r = none ↔ r.wellFormed cfg = true := by
  cases r with
  | cmd op params resp => simp [Request.refusal?, Request.wellFormed, commandRefusal?_eq_none]
  | encFullMono m => exact matrixRefusal?_eq_none
  | encColMono m => simp [Request.refusal?, Request.wellFormed, matrixRefusal?_eq_none, monoRefusal?_eq_none]
  | encColGrey m => simp [Request.refusal?, Request.wellFormed, matrixRefusal?_eq_none]
  | encWideMono m => exact matrixRefusal?_eq_none

end Sys2Proof.Machine
end

section
/-! PROOF. The session invariant phase by phase (spec/10_state.md R31 to R37): what it gives in a phase, what is enough
for it in a phase, and that each phase's step leads from the one to the other. -/

namespace Sys2Proof.Machine

/-- What the invariant says of the error, the cause and the response in every phase (R36, R37). -/
structure State.OutcomeOk (s : State) : Prop where
  responseLength : ∀ b, s.rbuf = some b → b.length = Param.respLen
  errorCode : s.err ≠ some .ok
  causeWithTransport : s.cause ≠ none → ∃ c, s.err = some c ∧ c.isTransport = true

/-- Nothing of the request's outcome is there yet (R36). -/
structure State.NoOutcome (s : State) : Prop where
  err : s.err = none
  cause : s.cause = none
  rbuf : s.rbuf = none

/-- `i` is latched, passed the checks of CHECK, and `frames` is its frame list (R33). -/
structure State.Serves (s : State) (i : Instr) : Prop where
  latch : s.latch = some i
  frames : s.frames = i.frames s.cfg
  wellFormed : i.wellFormed s.cfg = true
  dimsOk : i.dimsOk s.cfg = true

/-- A session is open for `i`, `fidx` within its frames (R34, R35). -/
structure State.SessionFor (s : State) (i : Instr) : Prop extends s.Serves i where
  session : s.session = true
  indexBound : s.fidx ≤ s.frames.length

namespace State

variable {s : State} {i : Instr}

theorem NoOutcome.outcomeOk (h : s.NoOutcome) : s.OutcomeOk := by
  constructor <;> simp [h.err, h.cause, h.rbuf]

/-- A transport failure may bring its cause with it (R36). -/
theorem OutcomeOk.raiseWith (h : s.OutcomeOk) {c : Code} (hc : c.isTransport = true) (d : Cause) :
    (s.raiseWith c d).OutcomeOk where
  responseLength := h.responseLength
  errorCode := by rintro ⟨⟩; cases hc
  causeWithTransport := fun _ => ⟨c, rfl, hc⟩

/-- An error without a cause of its own is recorded where none stands (R133, R136). -/
theorem NoOutcome.raise (h : s.NoOutcome) {c : Code} (hc : c ≠ .ok) : (s.raise c).OutcomeOk := by
  constructor <;> simp [h.cause, h.rbuf, hc]

theorem NoOutcome.receive (h : s.NoOutcome) {b : List Byte} (hb : b.length = Param.respLen) :
    (s.receive b).OutcomeOk := by
  constructor <;> simp [h.err, h.cause, hb]

namespace Inv

theorem outcomeOk (h : s.Inv) : s.OutcomeOk := { h with }

theorem noOutcome (h : s.Inv) (hi : s.phase ≠ .idle) (hc : s.phase ≠ .close) : s.NoOutcome := by
  obtain ⟨herr, hrbuf⟩ := h.cleanBefore hi hc
  refine ⟨herr, by_contra fun hcause => ?_, hrbuf⟩
  obtain ⟨c, hsome, -⟩ := h.causeWithTransport hcause
  simp [herr] at hsome

theorem serves (h : s.Inv) (hp : s.phase.built = true) (hl : s.latch = some i) : s.Serves i := by
  obtain ⟨j, hj, hframes, hwf, hdims⟩ := h.framesBuilt hp
  obtain rfl : j = i := by simpa [hl] using hj.symm
  exact ⟨hl, hframes, hwf, hdims⟩

theorem sessionFor (h : s.Inv) (hp : s.phase.inSession = true) (hl : s.latch = some i) : s.SessionFor i :=
  { h.serves (Phase.built_of_inSession hp) hl with
    session := h.sessionOpen.trans hp, indexBound := h.indexBound hp }

theorem of_idle (hp : s.phase = .idle) (hl : s.latch = none) (hs : s.session = false) (ho : s.OutcomeOk) : s.Inv :=
  { ho with
    latched := by simp [hp, hl]
    sessionOpen := by simp [hp, hs, Phase.inSession]
    framesBuilt := by simp [hp, Phase.built]
    indexBound := by simp [hp, Phase.inSession]
    readAfterWrites := by simp [hp]
    closeClean := by simp [hp]
    cleanBefore := fun hi => absurd hp hi }

/-- In CHECK and OPEN no session is open and nothing has failed; from OPEN on the frames are there. -/
theorem of_beforeSession (hp : s.phase.inSession = false) (hbusy : s.phase ≠ .idle) (hl : s.latch = some i)
    (hs : s.session = false) (hn : s.NoOutcome) (hf : s.phase.built = true → s.Serves i) : s.Inv :=
  { hn.outcomeOk with
    latched := by simp [hbusy, hl]
    sessionOpen := hs.trans hp.symm
    framesBuilt := fun h => ⟨i, hl, (hf h).frames, (hf h).wellFormed, (hf h).dimsOk⟩
    indexBound := by simp [hp]
    readAfterWrites := fun h => by simp [h, Phase.inSession] at hp
    closeClean := fun h => by simp [h, Phase.inSession] at hp
    cleanBefore := fun _ _ => ⟨hn.err, hn.rbuf⟩ }

/-- The three phases of a session differ in what READ and CLOSE ask for besides. -/
theorem of_session (hp : s.phase.inSession = true) (hi : s.SessionFor i) (ho : s.OutcomeOk)
    (hn : s.phase ≠ .close → s.NoOutcome)
    (hr : s.phase = .read → s.fidx = s.frames.length ∧ i.resp s.cfg = true)
    (hc : s.phase = .close → s.err = none → s.fidx = s.frames.length ∧ s.rbuf.isSome = i.resp s.cfg) : s.Inv :=
  { ho with
    latched := by simp [Phase.ne_idle_of_inSession hp, hi.latch]
    sessionOpen := hi.session.trans hp.symm
    framesBuilt := fun _ => ⟨i, hi.latch, hi.frames, hi.wellFormed, hi.dimsOk⟩
    indexBound := fun _ => hi.indexBound
    readAfterWrites := fun h => ⟨(hr h).1, i, hi.latch, (hr h).2⟩
    closeClean := fun h he => ⟨(hc h he).1, i, hi.latch, (hc h he).2⟩
    cleanBefore := fun _ h => ⟨(hn h).err, (hn h).rbuf⟩ }

theorem of_write (hp : s.phase = .write) (hi : s.SessionFor i) (hn : s.NoOutcome) : s.Inv :=
  of_session (by simp [hp, Phase.inSession]) hi hn.outcomeOk (fun _ => hn) (by simp [hp]) (by simp [hp])

theorem of_read (hp : s.phase = .read) (hi : s.SessionFor i) (hn : s.NoOutcome) (hx : s.fidx = s.frames.length)
    (hr : i.resp s.cfg = true) : s.Inv :=
  of_session (by simp [hp, Phase.inSession]) hi hn.outcomeOk (fun _ => hn) (fun _ => ⟨hx, hr⟩) (by simp [hp])

theorem of_close (hp : s.phase = .close) (hi : s.SessionFor i) (ho : s.OutcomeOk)
    (hc : s.err = none → s.fidx = s.frames.length ∧ s.rbuf.isSome = i.resp s.cfg) : s.Inv :=
  of_session (by simp [hp, Phase.inSession]) hi ho (fun h => absurd hp h) (by simp [hp]) (fun _ => hc)

end Inv

end State

section
variable {s t : State} {i : Instr}

theorem withWaiting_keeps_inv (h : s.Inv) (q : List (List Instr)) : (s.withWaiting q).Inv := { h with }

theorem accept_keeps_inv (h : s.Inv) (hp : s.phase = .idle) : (s.accept i).Inv :=
  .of_beforeSession rfl nofun rfl (h.sessionOpen.trans (by simp [hp, Phase.inSession])) ⟨rfl, rfl, rfl⟩ nofun

theorem resetPfe_inv (s : State) : s.resetPfe.Inv :=
  .of_idle rfl rfl rfl (State.NoOutcome.outcomeOk ⟨rfl, rfl, rfl⟩)

theorem checkStep_keeps_inv (h : s.Inv) (hp : s.phase = .check) (hl : s.latch = some i)
    (hstep : checkStep (i.request? s.cfg) s = .next t) : t.Inv := by
  have hs : s.session = false := h.sessionOpen.trans (by simp [hp, Phase.inSession])
  have hn : s.NoOutcome := h.noOutcome (by simp [hp]) (by simp [hp])
  obtain ⟨r, hr, href, ⟨hdims, rfl⟩ | ⟨-, rfl⟩⟩ := checkStep_next hstep
  · have hi : (s.loadFrames (r.frames s.cfg)).Serves i :=
      { latch := hl
        frames := by simp [Instr.frames, hr]
        wellFormed := by simp [Instr.wellFormed, hr, refusal?_eq_none.mp href]
        dimsOk := by simp [Instr.dimsOk, hr, hdims] }
    exact .of_beforeSession rfl nofun hl hs { hn with } fun _ => hi
  · exact .of_idle rfl rfl hs { hn.raise (c := .dimensionError) nofun with }

theorem openStep_keeps_inv (h : s.Inv) (hp : s.phase = .opening) (hl : s.latch = some i) {resp : Bool}
    (hstep : openStep resp s = .next t) : t.Inv := by
  have hs : s.session = false := h.sessionOpen.trans (by simp [hp, Phase.inSession])
  have hn : s.NoOutcome := h.noOutcome (by simp [hp]) (by simp [hp])
  have hi : s.Serves i := h.serves (by simp [hp, Phase.built]) hl
  obtain ⟨b, -, rfl⟩ | ⟨c, n, -, rfl⟩ := openStep_next hstep
  · exact .of_write rfl { hi with session := rfl, indexBound := Nat.zero_le _ } { hn with }
  · exact .of_idle rfl rfl hs { hn.outcomeOk.raiseWith (c := .transportOpen) rfl c with }

theorem writeStep_keeps_inv (h : s.Inv) (hp : s.phase = .write) (hl : s.latch = some i)
    (hstep : writeStep (i.resp s.cfg) s = .next t) : t.Inv := by
  have hn : s.NoOutcome := h.noOutcome (by simp [hp]) (by simp [hp])
  have hi : s.SessionFor i := h.sessionFor (by simp [hp, Phase.inSession]) hl
  obtain ⟨hx, rfl⟩ | ⟨-, f, hf, ⟨b, -, rfl⟩ | ⟨c, n, -, rfl⟩⟩ := writeStep_next hstep
  · cases hr : i.resp s.cfg with
    | true => exact .of_read rfl { hi with } { hn with } hx hr
    | false => exact .of_close rfl { hi with } { hn.outcomeOk with } fun _ => ⟨hx, by simp [hn.rbuf, hr]⟩
  · have hlt : s.fidx < s.frames.length := (List.getElem?_eq_some_iff.mp hf).1
    exact .of_write hp { hi with indexBound := hlt } { hn with }
  · exact .of_close rfl { hi with } { hn.outcomeOk.raiseWith (c := .transportWrite) rfl c with } nofun

theorem readStep_keeps_inv (h : s.Inv) (hp : s.phase = .read) (hl : s.latch = some i) (hstep : readStep s = .next t) :
    t.Inv := by
  have hn : s.NoOutcome := h.noOutcome (by simp [hp]) (by simp [hp])
  have hi : s.SessionFor i := h.sessionFor (by simp [hp, Phase.inSession]) hl
  obtain ⟨b, -, hb, rfl⟩ | ⟨b, -, -, rfl⟩ | ⟨c, n, -, rfl⟩ := readStep_next hstep
  · obtain ⟨hx, j, hj, hr⟩ := h.readAfterWrites hp
    obtain rfl : j = i := by simpa [hl] using hj.symm
    exact .of_close rfl { hi with } { hn.receive hb with } fun _ => ⟨hx, hr.symm⟩
  · exact .of_close rfl { hi with } { hn.raise (c := .transportShortRead) nofun with } nofun
  · exact .of_close rfl { hi with } { hn.outcomeOk.raiseWith (c := .transportRead) rfl c with } nofun

theorem closeStep_keeps_inv (h : s.Inv) {resp : Bool} (hstep : closeStep resp s = .next t) : t.Inv := by
  obtain ⟨b, -, rfl⟩ | ⟨c, n, -, ⟨-, rfl⟩ | ⟨-, rfl⟩⟩ := closeStep_next hstep
  · exact .of_idle rfl rfl rfl { h.outcomeOk with }
  · exact .of_idle rfl rfl rfl { h.outcomeOk.raiseWith (c := .transportClose) rfl c with }
  · exact .of_idle rfl rfl rfl { h.outcomeOk with }

/-- The step of any instruction keeps the invariant, of the latched one where a request is being served. -/
theorem exec_keeps_inv (h : s.Inv) (hl : s.phase ≠ .idle → s.latch = some i) (hstep : exec i s = .next t) : t.Inv := by
  rw [exec_eq_serve] at hstep
  obtain ⟨hp, rfl⟩ | ⟨hp, hstep⟩ | ⟨hp, hstep⟩ | ⟨hp, hstep⟩ | ⟨hp, hstep⟩ | ⟨hp, hstep⟩ := serve_next hstep
  · exact accept_keeps_inv h hp
  · exact checkStep_keeps_inv h hp (hl (by simp [hp])) hstep
  · exact openStep_keeps_inv h hp (hl (by simp [hp])) hstep
  · exact writeStep_keeps_inv h hp (hl (by simp [hp])) hstep
  · exact readStep_keeps_inv h hp (hl (by simp [hp])) hstep
  · exact closeStep_keeps_inv h hstep

end

/-- Settles O28, by what the machine's step does: a reset, an accepted request, the latched one's step, or nothing. -/
theorem stepKeepsTheSessionInvariant : Obligations.StepKeepsTheSessionInvariant := by
  intro s t h hstep
  obtain ⟨-, -, rfl⟩ | ⟨-, i, u, hmove, hexec⟩ | ⟨-, -, rfl⟩ := step_next hstep
  · exact resetPfe_inv s
  · obtain ⟨hp, q, -, rfl⟩ | ⟨-, hl, rfl⟩ := nextMove_run hmove
    · exact exec_keeps_inv (withWaiting_keeps_inv h q) (fun hbusy => absurd hp hbusy) hexec
    · exact exec_keeps_inv h (fun _ => hl) hexec
  · exact h

/-- Settles O29: the state after reset is what a reset leaves of it. -/
theorem resetMeetsTheSessionInvariant : Obligations.ResetMeetsTheSessionInvariant :=
  resetPfe_inv State.reset

end Sys2Proof.Machine
end

section
/-! PROOF. A step reads the live part of the state only (spec/10_state.md R41, R43): every update of the session keeps
the agreement of two states, so each phase's step has the same outcome at both. -/

namespace Sys2Proof.Machine

namespace State.AgreeOnLive

variable {s t : State}

/-- The transport gives both the same answer (R141). -/
theorem reply_eq (h : s.AgreeOnLive t) : s.reply = t.reply := State.reply_congr h.replies h.log

theorem withWaiting (h : s.AgreeOnLive t) (q : List (List Instr)) : (s.withWaiting q).AgreeOnLive (t.withWaiting q) :=
  { h with waiting := rfl }

theorem accept (h : s.AgreeOnLive t) (i : Instr) : (s.accept i).AgreeOnLive (t.accept i) :=
  { h with phase := rfl, latch := rfl, frames := nofun, fidx := nofun, outcome := fun _ => ⟨rfl, rfl, rfl⟩ }

theorem loadFrames (h : s.AgreeOnLive t) (hp : s.phase = .check) (fs : List Frame) :
    (s.loadFrames fs).AgreeOnLive (t.loadFrames fs) :=
  { h with phase := rfl, frames := fun _ => rfl, fidx := nofun, outcome := fun _ => h.outcome (by simp [hp]) }

theorem record (h : s.AgreeOnLive t) (c : Call) : (s.record c).AgreeOnLive (t.record c) :=
  { h with replies := by simp [h.replies], log := by simp [h.log, h.reply_eq] }

theorem raise (h : s.AgreeOnLive t) (c : Code) : (s.raise c).AgreeOnLive (t.raise c) :=
  { h with outcome := fun hp => ⟨rfl, (h.outcome hp).2⟩ }

theorem raiseWith (h : s.AgreeOnLive t) (c : Code) (d : Cause) : (s.raiseWith c d).AgreeOnLive (t.raiseWith c d) :=
  { h with outcome := fun hp => ⟨rfl, rfl, (h.outcome hp).2.2⟩ }

theorem receive (h : s.AgreeOnLive t) (b : List Byte) : (s.receive b).AgreeOnLive (t.receive b) :=
  { h with outcome := fun hp => ⟨(h.outcome hp).1, (h.outcome hp).2.1, rfl⟩ }

theorem opened (h : s.AgreeOnLive t) (hp : s.phase = .opening) : s.opened.AgreeOnLive t.opened :=
  { h with
    phase := rfl, session := rfl, frames := fun _ => h.frames (by simp [hp, Phase.built]), fidx := fun _ => rfl
    outcome := fun _ => h.outcome (by simp [hp]) }

theorem advance (h : s.AgreeOnLive t) : s.advance.AgreeOnLive t.advance :=
  { h with fidx := fun hp => congrArg (· + 1) (h.fidx hp) }

/-- In a session every element is live, so the next phase may read any. -/
theorem goto (h : s.AgreeOnLive t) (hp : s.phase.inSession = true) (p : Phase) : (s.goto p).AgreeOnLive (t.goto p) :=
  { h with
    phase := rfl, frames := fun _ => h.frames (Phase.built_of_inSession hp), fidx := fun _ => h.fidx hp
    outcome := fun _ => h.outcome (Phase.ne_idle_of_inSession hp) }

theorem endSession (h : s.AgreeOnLive t) : s.endSession.AgreeOnLive t.endSession :=
  { h with session := rfl }

/-- The completion reads the error, the cause and the response, which are live outside IDLE (R138). -/
theorem complete (h : s.AgreeOnLive t) (hp : s.phase ≠ .idle) (resp : Bool) :
    (s.complete resp).AgreeOnLive (t.complete resp) := by
  obtain ⟨he, hc, hb⟩ := h.outcome hp
  exact { h with
    phase := rfl, latch := rfl, frames := nofun, fidx := nofun, outcome := fun hi => absurd rfl hi
    completions := by simp [h.completions, State.completion_congr resp he hc hb] }

theorem resetPfe (h : s.AgreeOnLive t) : s.resetPfe.AgreeOnLive t.resetPfe :=
  { h with
    phase := rfl, latch := rfl, session := rfl, resetLine := rfl, frames := nofun, fidx := nofun
    outcome := fun _ => ⟨rfl, rfl, rfl⟩ }

theorem checkStep_sameOutcome (h : s.AgreeOnLive t) (hp : s.phase = .check) (r? : Option Request) :
    SameOutcome (checkStep r? s) (checkStep r? t) := by
  unfold checkStep
  rw [← h.cfg]
  split
  · rfl
  · split
    · rfl
    · split
      · exact h.loadFrames hp _
      · exact (h.raise _).complete (by simp [hp]) _

theorem openStep_sameOutcome (h : s.AgreeOnLive t) (hp : s.phase = .opening) (resp : Bool) :
    SameOutcome (openStep resp s) (openStep resp t) := by
  unfold openStep
  rw [← h.reply_eq]
  split
  · exact (h.record _).opened hp
  · exact ((h.record _).raiseWith _ _).complete (by simp [hp]) resp
  · rfl

theorem writeStep_sameOutcome (h : s.AgreeOnLive t) (hp : s.phase = .write) (resp : Bool) :
    SameOutcome (writeStep resp s) (writeStep resp t) := by
  have hsession : s.phase.inSession = true := by simp [hp, Phase.inSession]
  unfold writeStep
  rw [← h.reply_eq, ← h.frames (Phase.built_of_inSession hsession), ← h.fidx hsession]
  split
  · exact h.goto hsession _
  · split
    · rfl
    · split
      · exact (h.record _).advance
      · exact ((h.record _).raiseWith _ _).goto hsession _
      · rfl

theorem readStep_sameOutcome (h : s.AgreeOnLive t) (hp : s.phase = .read) : SameOutcome (readStep s) (readStep t) := by
  have hsession : s.phase.inSession = true := by simp [hp, Phase.inSession]
  unfold readStep
  rw [← h.reply_eq]
  split
  · split
    · exact ((h.record _).receive _).goto hsession _
    · split
      · exact ((h.record _).raise _).goto hsession _
      · rfl
  · exact ((h.record _).raiseWith _ _).goto hsession _
  · rfl

theorem closeStep_sameOutcome (h : s.AgreeOnLive t) (hp : s.phase = .close) (resp : Bool) :
    SameOutcome (closeStep resp s) (closeStep resp t) := by
  have hbusy : s.phase ≠ .idle := by simp [hp]
  unfold closeStep
  rw [← h.reply_eq, ← (h.outcome hbusy).1]
  split
  · exact (h.record _).endSession.complete hbusy resp
  · split
    · exact ((h.record _).raiseWith _ _).endSession.complete hbusy resp
    · exact (h.record _).endSession.complete hbusy resp
  · rfl

/-- The step of any instruction, by the phase both states are in. -/
theorem exec_sameOutcome (h : s.AgreeOnLive t) (i : Instr) : SameOutcome (exec i s) (exec i t) := by
  rw [exec_eq_serve, exec_eq_serve, ← h.cfg]
  unfold serve
  rw [← h.phase]
  cases hp : s.phase with
  | idle => exact h.accept i
  | check => exact h.checkStep_sameOutcome hp _
  | opening => exact h.openStep_sameOutcome hp _
  | write => exact h.writeStep_sameOutcome hp _
  | read => exact h.readStep_sameOutcome hp
  | close => exact h.closeStep_sameOutcome hp _

theorem applyReset_sameOutcome (h : s.AgreeOnLive t) : SameOutcome (applyReset s) (applyReset t) := by
  unfold applyReset
  rw [← h.phase]
  split
  · exact h.resetPfe
  · rfl

end State.AgreeOnLive

/-- Settles O33: a reset and the choice among the waiting requests read the ports only, and an instruction's step the
live part. -/
theorem nothingStaleIsRead : Obligations.NothingStaleIsRead := by
  intro s t h
  unfold step State.nextMove
  rw [← h.resetLine, ← h.phase, ← h.completions, ← h.waiting, ← h.latch]
  split
  · exact h.applyReset_sameOutcome
  · cases s.phase
    case idle =>
      cases pick (Config.schedule s.completions.length) s.waiting with
      | none => exact h
      | some p => exact (h.withWaiting p.2).exec_sameOutcome p.1
    all_goals
      cases s.latch with
      | none => rfl
      | some i => exact h.exec_sameOutcome i

end Sys2Proof.Machine
end

section
/-! PROOF. The order of a session's transport calls phase by phase (spec/20_memory.md R74, R75, spec/40_codec.md R139,
R140): what is enough for it in a phase, and that each phase's step leads from the one to the next. -/

namespace Sys2Proof.Machine

/-- The log ends with an open that succeeded and one successful write for each of `frames`, in order (R74). -/
def LogEndsWritten (frames : List Frame) (log : List (Call × Reply)) : Prop :=
  ∃ pre calls, log = pre ++ calls ∧ openedThenWrote frames calls

theorem logEndsWritten_opened (log : List (Call × Reply)) (b : List Byte) :
    LogEndsWritten [] (log ++ [(.openSession, .ok b)]) :=
  ⟨log, _, rfl, b, [], rfl, rfl⟩

/-- A further successful write continues the record by its frame. -/
theorem openedThenWrote_concat {frames : List Frame} {calls : List (Call × Reply)} (h : openedThenWrote frames calls)
    (f : Frame) (b : List Byte) : openedThenWrote (frames ++ [f]) (calls ++ [writeOk f b]) := by
  obtain ⟨b₀, bs, hlen, rfl⟩ := h
  exact ⟨b₀, bs ++ [b], by simp [hlen], by simp [List.zip_append hlen.symm]⟩

theorem LogEndsWritten.concat {frames : List Frame} {log : List (Call × Reply)} (h : LogEndsWritten frames log)
    (f : Frame) (b : List Byte) : LogEndsWritten (frames ++ [f]) (log ++ [(.write f, .ok b)]) := by
  obtain ⟨pre, calls, rfl, hcalls⟩ := h
  exact ⟨pre, _, List.append_assoc .., openedThenWrote_concat hcalls f b⟩

namespace State.LogInOrder

variable {s : State}

/-- Outside a session nothing is asked of the log. -/
theorem of_not_inSession (hp : s.phase.inSession = false) : s.LogInOrder := by
  constructor <;> (intro h; simp [h, Phase.inSession] at hp)

theorem of_write (hp : s.phase = .write) (h : LogEndsWritten (s.frames.take s.fidx) s.log) : s.LogInOrder where
  whileWriting := fun _ => h
  beforeRead := by simp [hp]
  beforeClose := by simp [hp]

theorem of_read (hp : s.phase = .read) (h : LogEndsWritten s.frames s.log) : s.LogInOrder where
  whileWriting := by simp [hp]
  beforeRead := fun _ => h
  beforeClose := by simp [hp]

/-- In CLOSE without a response the log ends with the writes. -/
theorem of_close (hp : s.phase = .close) (hb : s.rbuf = none) (h : LogEndsWritten s.frames s.log) :
    s.LogInOrder where
  whileWriting := by simp [hp]
  beforeRead := by simp [hp]
  beforeClose := fun _ _ => by
    obtain ⟨pre, calls, hlog, hcalls⟩ := h
    exact ⟨pre, calls, hcalls, by simp [hb, hlog]⟩

/-- In CLOSE with a response the read that gave it stands behind the writes (R75). -/
theorem of_close_received (hp : s.phase = .close) {b : List Byte} (hb : s.rbuf = some b) {log : List (Call × Reply)}
    (h : LogEndsWritten s.frames log) (hlog : s.log = log ++ [(.read Param.respLen, .ok b)]) : s.LogInOrder where
  whileWriting := by simp [hp]
  beforeRead := by simp [hp]
  beforeClose := fun _ _ => by
    obtain ⟨pre, calls, rfl, hcalls⟩ := h
    exact ⟨pre, calls, hcalls, by simp [hb, hlog]⟩

/-- After a failure nothing is asked of the log. -/
theorem of_close_failed (hp : s.phase = .close) (he : s.err ≠ none) : s.LogInOrder where
  whileWriting := by simp [hp]
  beforeRead := by simp [hp]
  beforeClose := fun _ h => absurd h he

end State.LogInOrder

section
variable {s t : State} {i : Instr}

theorem checkStep_logInOrder {r? : Option Request} (hstep : checkStep r? s = .next t) : t.LogInOrder := by
  obtain ⟨r, -, -, ⟨-, rfl⟩ | ⟨-, rfl⟩⟩ := checkStep_next hstep
  · exact .of_not_inSession rfl
  · exact .of_not_inSession rfl

theorem openStep_logInOrder {resp : Bool} (hstep : openStep resp s = .next t) : t.LogInOrder := by
  obtain ⟨b, hb, rfl⟩ | ⟨c, n, -, rfl⟩ := openStep_next hstep
  · exact .of_write rfl (by simpa [hb] using logEndsWritten_opened s.log b)
  · exact .of_not_inSession rfl

/-- The end of writing changes no call; a write that succeeded continues the record by frame `fidx`. -/
theorem writeStep_keeps_logInOrder (h : s.LogInOrder) (hp : s.phase = .write) (hbuf : s.rbuf = none) {resp : Bool}
    (hstep : writeStep resp s = .next t) : t.LogInOrder := by
  have hlog : LogEndsWritten (s.frames.take s.fidx) s.log := h.whileWriting hp
  obtain ⟨hx, rfl⟩ | ⟨-, f, hf, ⟨b, hb, rfl⟩ | ⟨c, n, -, rfl⟩⟩ := writeStep_next hstep
  · rw [hx, List.take_length] at hlog
    cases resp with
    | true => exact .of_read rfl hlog
    | false => exact .of_close rfl hbuf hlog
  · have hnext : s.frames.take (s.fidx + 1) = s.frames.take s.fidx ++ [f] := by simp [List.take_add_one, hf]
    exact .of_write hp (by simpa [hnext, hb] using hlog.concat f b)
  · exact .of_close_failed rfl nofun

theorem readStep_keeps_logInOrder (h : s.LogInOrder) (hp : s.phase = .read) (hstep : readStep s = .next t) :
    t.LogInOrder := by
  obtain ⟨b, hb, -, rfl⟩ | ⟨b, -, -, rfl⟩ | ⟨c, n, -, rfl⟩ := readStep_next hstep
  · exact .of_close_received rfl rfl (h.beforeRead hp) (by simp [hb])
  · exact .of_close_failed rfl nofun
  · exact .of_close_failed rfl nofun

theorem closeStep_logInOrder {resp : Bool} (hstep : closeStep resp s = .next t) : t.LogInOrder := by
  obtain ⟨b, -, rfl⟩ | ⟨c, n, -, ⟨-, rfl⟩ | ⟨-, rfl⟩⟩ := closeStep_next hstep
  · exact .of_not_inSession rfl
  · exact .of_not_inSession rfl
  · exact .of_not_inSession rfl

/-- The step of any instruction keeps the order; in WRITE no response is held yet. -/
theorem exec_keeps_logInOrder (h : s.LogInOrder) (hbuf : s.phase = .write → s.rbuf = none)
    (hstep : exec i s = .next t) : t.LogInOrder := by
  rw [exec_eq_serve] at hstep
  obtain ⟨-, rfl⟩ | ⟨-, hstep⟩ | ⟨-, hstep⟩ | ⟨hp, hstep⟩ | ⟨hp, hstep⟩ | ⟨-, hstep⟩ := serve_next hstep
  · exact .of_not_inSession rfl
  · exact checkStep_logInOrder hstep
  · exact openStep_logInOrder hstep
  · exact writeStep_keeps_logInOrder h hp (hbuf hp) hstep
  · exact readStep_keeps_logInOrder h hp hstep
  · exact closeStep_logInOrder hstep

end

/-- Settles O30: outside a session nothing is asked of the log, and in one each call's step adds its own record. -/
theorem stepKeepsTheCallOrder : Obligations.StepKeepsTheCallOrder := by
  intro s t hinv h hstep
  have hbuf : s.phase = .write → s.rbuf = none := fun hp => (hinv.noOutcome (by simp [hp]) (by simp [hp])).rbuf
  obtain ⟨-, -, rfl⟩ | ⟨-, i, u, hmove, hexec⟩ | ⟨-, -, rfl⟩ := step_next hstep
  · exact .of_not_inSession rfl
  · obtain ⟨hp, q, -, rfl⟩ | ⟨-, -, rfl⟩ := nextMove_run hmove
    · exact exec_keeps_logInOrder (s := s.withWaiting q) { h with } hbuf hexec
    · exact exec_keeps_logInOrder h hbuf hexec
  · exact h

end Sys2Proof.Machine
end

section
/-! PROOF. The free choice among the waiting requests (spec/60_exceptions.md R315), and the accept of the chosen one. -/

namespace Sys2Proof.Machine

/-- The request taken is the first of its queue; every other one stays held in its place (R73, R315). -/
theorem pick_eq_some {k : Nat} {queues left : List (List Instr)} {i : Instr} (h : pick k queues = some (i, left)) :
    ∃ pre q post, queues = pre ++ (i :: q) :: post ∧ left = pre ++ q :: post := by
  fun_induction pick k queues generalizing left with
  | case1 => cases h
  | case2 k qs j qs' hpick ih =>
    cases h
    obtain ⟨pre, q, post, rfl, rfl⟩ := ih hpick
    exact ⟨[] :: pre, q, post, rfl, rfl⟩
  | case3 => cases h
  | case4 k j q qs _ => cases h; exact ⟨[], q, qs, rfl, rfl⟩
  | case5 j q qs _ => cases h; exact ⟨[], q, qs, rfl, rfl⟩
  | case6 j q qs _ k j' qs' hpick ih =>
    cases h
    obtain ⟨pre, q', post, rfl, rfl⟩ := ih hpick
    exact ⟨(j :: q) :: pre, q', post, rfl, rfl⟩
  | case7 j q qs _ k _ => cases h; exact ⟨[], q, qs, rfl, rfl⟩

/-- No request is chosen exactly where no requester waits (R315). -/
theorem pick_eq_none {k : Nat} {queues : List (List Instr)} : pick k queues = none ↔ ∀ q ∈ queues, q = [] := by
  fun_induction pick k queues with
  | case1 => simp
  | case2 k qs j qs' hpick ih => simpa [hpick] using ih
  | case3 k qs hpick ih => simpa [hpick] using ih
  | case4 => simp
  | case5 => simp
  | case6 => simp
  | case7 => simp

/-- Settles O37: both halves by induction along the queues, as `pick` runs through them. -/
theorem theChoiceTakesOneWaitingRequest : Obligations.TheChoiceTakesOneWaitingRequest :=
  ⟨fun _ _ _ _ => pick_eq_some, fun _ _ => pick_eq_none⟩

section
variable {s : State} (hr : s.resetLine = false) (hp : s.phase = .idle)
include hr hp

/-- In IDLE the chosen request is taken off its queue and its step is the accept (R133, R315). -/
theorem step_of_chosen {i : Instr} {queues : List (List Instr)}
    (h : pick (Config.schedule s.completions.length) s.waiting = some (i, queues)) :
    step s = exec i (s.withWaiting queues) := by
  simp [step, State.nextMove, hr, hp, h]

theorem step_of_chosen_next {i : Instr} {queues : List (List Instr)}
    (h : pick (Config.schedule s.completions.length) s.waiting = some (i, queues)) :
    step s = .next ((s.withWaiting queues).accept i) :=
  (step_of_chosen hr hp h).trans (exec_of_idle (s := s.withWaiting queues) i hp)

/-- In IDLE with nothing waiting no rule fires. -/
theorem step_of_nothing_waiting (h : ∀ q ∈ s.waiting, q = []) : step s = .next s := by
  simp [step, State.nextMove, hr, hp, pick_eq_none.mpr h]

end

/-- Settles O35: in IDLE the next move is the chosen request's, and a choice fails only where nothing waits. -/
theorem stepAcceptsTheChosenRequest : Obligations.StepAcceptsTheChosenRequest := by
  intro s hr hp
  refine ⟨fun i queues h => ⟨step_of_chosen hr hp h, _, step_of_chosen_next hr hp h, ?_⟩,
    step_of_nothing_waiting hr hp⟩
  simp

end Sys2Proof.Machine
end

section
/-! PROOF. A request presented while another is served (spec/20_memory.md R73, spec/70_reset_and_hazards.md R343): no
phase's step reads the held requests, so presenting one commutes with the step. -/

namespace Sys2Proof.Machine

/-- The outcome of a step with the request `j` of requester `n` presented besides. -/
def alsoPresented (n : Nat) (j : Instr) : StepResult → StepResult
  | .next t => .next (t.present n j)
  | .fault f => .fault f
  | .refused r => .refused r

section
variable (n : Nat) (j : Instr) (s : State)

@[simp] theorem State.present_cfg : (s.present n j).cfg = s.cfg := rfl
@[simp] theorem State.present_phase : (s.present n j).phase = s.phase := rfl
@[simp] theorem State.present_frames : (s.present n j).frames = s.frames := rfl
@[simp] theorem State.present_fidx : (s.present n j).fidx = s.fidx := rfl
@[simp] theorem State.present_err : (s.present n j).err = s.err := rfl
@[simp] theorem State.present_reply : (s.present n j).reply = s.reply := rfl

theorem checkStep_present (r? : Option Request) :
    checkStep r? (s.present n j) = alsoPresented n j (checkStep r? s) := by
  cases r? with
  | none => rfl
  | some r =>
    unfold checkStep
    simp only [State.present_cfg]
    split
    · rfl
    · split <;> rfl

theorem openStep_present (resp : Bool) : openStep resp (s.present n j) = alsoPresented n j (openStep resp s) := by
  unfold openStep
  rw [State.present_reply]
  split <;> rfl

theorem writeStep_present (resp : Bool) : writeStep resp (s.present n j) = alsoPresented n j (writeStep resp s) := by
  unfold writeStep
  rw [State.present_reply, State.present_frames, State.present_fidx]
  split
  · rfl
  · split
    · rfl
    · split <;> rfl

theorem readStep_present : readStep (s.present n j) = alsoPresented n j (readStep s) := by
  unfold readStep
  rw [State.present_reply]
  split
  · split
    · rfl
    · split <;> rfl
  · rfl
  · rfl

theorem closeStep_present (resp : Bool) : closeStep resp (s.present n j) = alsoPresented n j (closeStep resp s) := by
  unfold closeStep
  rw [State.present_reply, State.present_err]
  split
  · rfl
  · split <;> rfl
  · rfl

/-- The step of any instruction, in any phase. -/
theorem exec_present (i : Instr) : exec i (s.present n j) = alsoPresented n j (exec i s) := by
  rw [exec_eq_serve, exec_eq_serve, State.present_cfg]
  unfold serve
  rw [State.present_phase]
  cases s.phase with
  | idle => rfl
  | check => exact checkStep_present n j s _
  | opening => exact openStep_present n j s _
  | write => exact writeStep_present n j s _
  | read => exact readStep_present n j s
  | close => exact closeStep_present n j s _

end

/-- Outside IDLE a step that answers a next state is the latched request's (R32). -/
theorem exec_of_step_next {s t : State} (hr : s.resetLine = false) (hp : s.phase ≠ .idle) (h : step s = .next t) :
    ∃ i, s.latch = some i ∧ exec i s = .next t := by
  obtain ⟨hreset, -, -⟩ | ⟨-, i, u, hmove, hexec⟩ | ⟨-, hwait, -⟩ := step_next h
  · simp [hr] at hreset
  · obtain ⟨hidle, -⟩ | ⟨-, hl, rfl⟩ := nextMove_run hmove
    · exact absurd hidle hp
    · exact ⟨i, hl, hexec⟩
  · exact absurd (nextMove_wait hwait) hp

/-- Settles O39: outside IDLE the choice among the held requests is not made, and the latched one's step does not read
them. -/
theorem aRequestPresentedWhileBusyIsHeld : Obligations.ARequestPresentedWhileBusyIsHeld := by
  intro s t n j hr hp h
  obtain ⟨i, hl, hexec⟩ := exec_of_step_next hr hp h
  calc step (s.present n j)
    _ = exec i (s.present n j) := step_of_latched (s := s.present n j) hr hp hl
    _ = alsoPresented n j (exec i s) := exec_present n j s i
    _ = .next (t.present n j) := by rw [hexec, alsoPresented]

end Sys2Proof.Machine
end

section
/-! PROOF. A request on a transport that answers (spec/40_codec.md R133 to R138, R140, R142): the step of each phase
where the transport's next answers are listed, and these steps put together. -/

namespace Sys2Proof.Machine

/-- What a well-formed instruction of the right geometry asks of CHECK (R99, R301). -/
theorem exists_request_of_wellFormed {cfg : Config} {i : Instr} (hwf : i.wellFormed cfg = true)
    (hdims : i.dimsOk cfg = true) :
    ∃ r, i.request? cfg = some r ∧ r.wellFormed cfg = true ∧ r.dimsOk = true ∧ i.frames cfg = r.frames cfg := by
  cases hr : i.request? cfg with
  | none => simp [Instr.wellFormed, hr] at hwf
  | some r =>
    have hrwf : r.wellFormed cfg = true := by simpa [Instr.wellFormed, hr] using hwf
    have hrdims : r.dimsOk = true := by simpa [Instr.dimsOk, hr] using hdims
    exact ⟨r, rfl, hrwf, hrdims, by simp [Instr.frames, hr]⟩

/-- The call `c` has returned the answer `a`, and `rest` are the answers listed behind it. -/
def State.answered (c : Call) (a : Reply) (rest : List Reply) (s : State) : State :=
  { s with replies := rest, log := s.log ++ [(c, a)] }

/-- Where an answer is listed, it is the one the call returns. -/
theorem record_eq_answered {s : State} {a : Reply} {rest : List Reply} (h : s.replies = a :: rest) (c : Call) :
    s.record c = s.answered c a rest := by
  simp [State.record, State.answered, State.reply_of_cons h, h]

section
variable {s : State} {i : Instr} {b : List Byte} {rest : List Reply}
variable (hr : s.resetLine = false) (hl : s.latch = some i)
include hr hl

/-- Outside IDLE the step of the machine is the latched request's in its phase (R32). -/
theorem step_eq_serve (hp : s.phase ≠ .idle) : step s = serve i (i.request? s.cfg) s :=
  (step_of_latched hr hp hl).trans (exec_eq_serve i s)

theorem step_of_check (hp : s.phase = .check) (hwf : i.wellFormed s.cfg = true) (hdims : i.dimsOk s.cfg = true) :
    step s = .next (s.loadFrames (i.frames s.cfg)) := by
  obtain ⟨r, hreq, hrwf, hrdims, hframes⟩ := exists_request_of_wellFormed hwf hdims
  rw [step_eq_serve hr hl (by simp [hp]), serve, hp]
  simp [checkStep, hreq, refusal?_eq_none.mpr hrwf, hrdims, hframes]

theorem step_of_open_ok (hp : s.phase = .opening) (ha : s.replies = .ok b :: rest) :
    step s = .next (s.answered .openSession (.ok b) rest).opened := by
  rw [step_eq_serve hr hl (by simp [hp]), serve, hp, ← record_eq_answered ha]
  simp [openStep, State.reply_of_cons ha]

theorem step_of_write_ok (hp : s.phase = .write) {f : Frame} (hf : s.frames[s.fidx]? = some f)
    (ha : s.replies = .ok b :: rest) : step s = .next (s.answered (.write f) (.ok b) rest).advance := by
  have hne : s.fidx ≠ s.frames.length := ((List.getElem?_eq_some_iff.mp hf).1).ne
  rw [step_eq_serve hr hl (by simp [hp]), serve, hp, ← record_eq_answered ha]
  simp [writeStep, hne, hf, State.reply_of_cons ha]

theorem step_of_all_written (hp : s.phase = .write) (hx : s.fidx = s.frames.length) :
    step s = .next (s.goto (if i.resp s.cfg then .read else .close)) := by
  rw [step_eq_serve hr hl (by simp [hp]), serve, hp]
  exact if_pos hx

theorem step_of_read_ok (hp : s.phase = .read) (ha : s.replies = .ok b :: rest) (hb : b.length = Param.respLen) :
    step s = .next (((s.answered (.read Param.respLen) (.ok b) rest).receive b).goto .close) := by
  rw [step_eq_serve hr hl (by simp [hp]), serve, hp, ← record_eq_answered ha]
  simp [readStep, State.reply_of_cons ha, hb]

theorem step_of_close_ok (hp : s.phase = .close) (ha : s.replies = .ok b :: rest) :
    step s = .next ((s.answered .close (.ok b) rest).endSession.complete (i.resp s.cfg)) := by
  rw [step_eq_serve hr hl (by simp [hp]), serve, hp, ← record_eq_answered ha]
  simp [closeStep, State.reply_of_cons ha, respOf_request?]

end

/-- The state in which the session of the chosen request `i` is open and its first frames `fs` are written, the answers
`rest` standing next. -/
def State.sessionWrote (i : Instr) (queues : List (List Instr)) (fs : List Frame) (rest : List Reply) (s : State) :
    State :=
  { s with
    phase := .write, latch := some i, frames := i.frames s.cfg, fidx := fs.length, session := true, err := none
    cause := none, rbuf := none, waiting := queues, replies := rest
    log := s.log ++ (.openSession, .ok []) :: fs.map fun f => writeOk f [] }

/-- One write a frame (R135, D16): from `fidx` on the frames `fs` are written in as many steps, where the next answers
are ok. -/
theorem runSteps_writes {i : Instr} {rest : List Reply} {later : List Frame} (fs : List Frame) {s : State}
    (hr : s.resetLine = false) (hl : s.latch = some i) (hp : s.phase = .write)
    (hfs : s.frames.drop s.fidx = fs ++ later) (ha : s.replies = List.replicate fs.length (.ok []) ++ rest) :
    runSteps fs.length s = .next { s with
      fidx := s.fidx + fs.length, replies := rest, log := s.log ++ fs.map fun f => writeOk f [] } := by
  induction fs generalizing s with
  | nil =>
    have hrest : s.replies = rest := ha
    simp [runSteps, ← hrest]
  | cons f fs ih =>
    have hf : s.frames[s.fidx]? = some f := by simpa using congrArg List.head? hfs
    have hlater : s.frames.drop (s.fidx + 1) = fs ++ later := by simpa using congrArg List.tail hfs
    have hnext : s.replies = .ok [] :: (List.replicate fs.length (.ok []) ++ rest) := ha
    have hstep := step_of_write_ok hr hl hp hf hnext
    rw [List.length_cons, runSteps_succ _ hstep, ih (s := (s.answered ..).advance) hr hl hp hlater rfl]
    simp [State.advance, State.answered, writeOk, Nat.add_assoc, Nat.add_comm 1]

/-- The accept, the check and the open of a chosen request (R133, R134), then the writes of its frames `fs`. -/
theorem runSteps_sessionWrote {s : State} {i : Instr} {queues : List (List Instr)} {fs later : List Frame}
    {rest : List Reply} (hr : s.resetLine = false) (hp : s.phase = .idle)
    (hpick : pick (Config.schedule s.completions.length) s.waiting = some (i, queues))
    (hwf : i.wellFormed s.cfg = true) (hdims : i.dimsOk s.cfg = true) (hfs : i.frames s.cfg = fs ++ later)
    (ha : s.replies = List.replicate (fs.length + 1) (.ok []) ++ rest) :
    runSteps (3 + fs.length) s = .next (s.sessionWrote i queues fs rest) := by
  have hopened : runSteps 3 s =
      .next (s.sessionWrote i queues [] (List.replicate fs.length (.ok []) ++ rest)) :=
    calc runSteps 3 s
      _ = runSteps 2 ((s.withWaiting queues).accept i) := runSteps_succ 2 (step_of_chosen_next hr hp hpick)
      _ = runSteps 1 (((s.withWaiting queues).accept i).loadFrames (i.frames s.cfg)) :=
        runSteps_succ 1 (step_of_check (s := (s.withWaiting queues).accept i) hr rfl rfl hwf hdims)
      _ = .next _ := runSteps_succ 0 (step_of_open_ok (i := i) hr rfl rfl ha)
  rw [runSteps_add _ hopened,
    runSteps_writes fs (s := s.sessionWrote i queues [] _) hr rfl rfl (later := later) hfs rfl]
  simp [State.sessionWrote]

/-- The completion of a request on which nothing failed (R138). -/
theorem completion_of_no_err {s : State} {resp : Bool} (he : s.err = none) (hb : s.rbuf.isSome = resp) :
    s.completion resp = ⟨.ok, none, s.rbuf⟩ := by
  cases h : s.rbuf <;> simp_all [State.completion, Code.isTransport, Code.number]

/-- The state in which the close has succeeded and the request has completed OK with what `rbuf` holds, the answers
`rest` standing next. -/
def State.closedOk (rest : List Reply) (s : State) : State :=
  { s with
    phase := .idle, latch := none, session := false, replies := rest, log := s.log ++ [(.close, .ok [])]
    completions := s.completions ++ [⟨.ok, none, s.rbuf⟩] }

/-- The close of a request on which nothing failed (R137, R138). -/
theorem step_of_close_clean {s : State} {i : Instr} {rest : List Reply} (hr : s.resetLine = false)
    (hl : s.latch = some i) (hp : s.phase = .close) (he : s.err = none) (hb : s.rbuf.isSome = i.resp s.cfg)
    (ha : s.replies = .ok [] :: rest) : step s = .next (s.closedOk rest) := by
  have hcompletion : (s.answered .close (.ok []) rest).endSession.completion (i.resp s.cfg) = ⟨.ok, none, s.rbuf⟩ :=
    completion_of_no_err he hb
  rw [step_of_close_ok hr hl hp ha, State.complete, hcompletion]
  rfl

/-- The state in which the request has read `response`, if it asked for one, and completed OK with it, the answers
`rest` standing next. -/
def State.served (response : Option (List Byte)) (rest : List Reply) (s : State) : State :=
  { s with
    phase := .idle, latch := none, session := false, rbuf := response, replies := rest
    log := s.log ++ response.toList.map (fun b => (.read Param.respLen, .ok b)) ++ [(.close, .ok [])]
    completions := s.completions ++ [⟨.ok, none, response⟩] }

/-- The end of writing, the read where a response is asked for, and the close (R135 to R138). -/
theorem runSteps_served {s : State} {i : Instr} {response : Option (List Byte)} {rest : List Reply}
    (hr : s.resetLine = false) (hl : s.latch = some i) (hp : s.phase = .write) (hx : s.fidx = s.frames.length)
    (hn : s.NoOutcome) (hresp : response.isSome = i.resp s.cfg) (hlen : ∀ b, response = some b → b.length = 32)
    (ha : s.replies = response.toList.map .ok ++ .ok [] :: rest) :
    runSteps (if i.resp s.cfg then 3 else 2) s = .next (s.served response rest) := by
  have hend := step_of_all_written hr hl hp hx
  rw [← hresp] at hend ⊢
  cases response with
  | none =>
    have hb : s.rbuf.isSome = i.resp s.cfg := by simp [hn.rbuf, ← hresp]
    calc runSteps 2 s
      _ = runSteps 1 (s.goto .close) := runSteps_succ 1 hend
      _ = .next ((s.goto .close).closedOk rest) :=
        runSteps_succ 0 (step_of_close_clean (s := s.goto .close) hr hl rfl hn.err hb ha)
      _ = .next (s.served none rest) := by simp [State.goto, State.closedOk, State.served, hn.rbuf]
  | some b =>
    calc runSteps 3 s
      _ = runSteps 2 (s.goto .read) := runSteps_succ 2 hend
      _ = runSteps 1
            ((((s.goto .read).answered (.read Param.respLen) (.ok b) (.ok [] :: rest)).receive b).goto .close) :=
        runSteps_succ 1 (step_of_read_ok (s := s.goto .read) hr hl rfl ha (hlen b rfl))
      _ = .next (s.served (some b) rest) := runSteps_succ 0 (step_of_close_clean (i := i) hr hl rfl hn.err hresp rfl)

/-- The bytes of the calls of a session on a working transport are those of its frames (R141). -/
theorem okCalls_deliveredBytes (frames : List Frame) (response : Option (List Byte)) :
    (okCalls frames response).flatMap deliveredBytes = frames.flatten := by
  have hwrites : (frames.map fun f => writeOk f []).flatMap deliveredBytes = frames.flatten := by
    rw [List.flatMap_map, List.flatMap_def]
    exact congrArg List.flatten (List.map_id frames)
  cases response <;> simp [okCalls, hwrites, deliveredBytes]

theorem okReplies_append (n : Nat) (response : Option (List Byte)) (rest : List Reply) :
    okReplies n response ++ rest =
      List.replicate (n + 1) (.ok []) ++ (response.toList.map .ok ++ .ok [] :: rest) := by
  simp [okReplies]

/-- Settles O31: the accept, the check, the open and one write a frame, then the end of writing, the read and the
close. -/
theorem aWorkingTransportServesEveryRequest : Obligations.AWorkingTransportServesEveryRequest := by
  intro s i queues response rest hp hr hpick hwf hdims hresp hlen ha
  have hwrote := runSteps_sessionWrote hr hp hpick hwf hdims (List.append_nil _).symm
    (ha.trans (okReplies_append _ response rest))
  have hserved := runSteps_served (s := s.sessionWrote i queues (i.frames s.cfg) _) (rest := rest) hr rfl rfl rfl
    ⟨rfl, rfl, rfl⟩ hresp hlen rfl
  have hsteps : (i.frames s.cfg).length + (if i.resp s.cfg then 6 else 5) =
      3 + (i.frames s.cfg).length + (if i.resp s.cfg then 3 else 2) := by split <;> omega
  have hlog : ∀ replies, ((s.sessionWrote i queues (i.frames s.cfg) replies).served response rest).log =
      s.log ++ okCalls (i.frames s.cfg) response := fun _ => by simp [State.served, State.sessionWrote, okCalls]
  refine ⟨_, by rw [hsteps, runSteps_add _ hwrote]; exact hserved, rfl, rfl, rfl, rfl, rfl, rfl, rfl, rfl, rfl, rfl,
    hlog _, ?_⟩
  rw [State.wire, hlog, List.flatMap_append, okCalls_deliveredBytes, State.wire]

end Sys2Proof.Machine
end

section
/-! PROOF. The bits of the full-frame payload (spec/20_memory.md R68, spec/42_encode_mono.md R221). -/

namespace Sys2Proof

theorem mem_smallCells {x y : Nat} : (x, y) ∈ smallCells ↔ x < 9 ∧ y < 34 := by
  simp [smallCells, Param.smallWidth, Param.smallHeight, and_comm]

/-- A bit of the payload is set where a cell that is on has that index (R221). -/
theorem bitAt_pack1 (m : CellMatrix) {j : Nat} (hj : j < 312) :
    bitAt (pack1 m) j = true ↔ ∃ x y, x < 9 ∧ y < 34 ∧ m.onAt Cell.onSmall x y = true ∧ x + 9 * y = j := by
  have hbyte : j / 8 < (zeros Param.fullLen).length := by simp [Param.fullLen]; omega
  rw [pack1, bitAt_foldl_setBit (fun c : Nat × Nat => m.onAt Cell.onSmall c.1 c.2)
    (fun c => c.1 + Param.smallWidth * c.2) _ _ _ hbyte]
  simp [mem_smallCells, Param.smallWidth, and_assoc]

/-- No two cells of the small display share an index, so a cell's bit is its own on test. -/
theorem bitAt_pack1_cell (m : CellMatrix) {x y : Nat} (hx : x < 9) (hy : y < 34) :
    bitAt (pack1 m) (x + 9 * y) = m.onAt Cell.onSmall x y := by
  rw [Bool.eq_iff_iff, bitAt_pack1 m (by omega)]
  constructor
  · rintro ⟨x', y', hx', hy', hon, hidx⟩
    obtain ⟨rfl, rfl⟩ : x' = x ∧ y' = y := by omega
    exact hon
  · exact fun hon => ⟨x, y, hx, hy, hon, rfl⟩

/-- The cells end at index 305 (D3). -/
theorem bitAt_pack1_padding (m : CellMatrix) {j : Nat} (hj : 306 ≤ j) (hj' : j < 312) :
    bitAt (pack1 m) j = false := by
  rw [Bool.eq_false_iff, ne_eq, bitAt_pack1 m hj']
  rintro ⟨x, y, hx, hy, -, hidx⟩
  omega

/-- Settles O45: a bit of the payload is set by the one cell that has its index, a padding bit by none. -/
theorem fullFrameBitIsTheCellsOnTest : Obligations.FullFrameBitIsTheCellsOnTest := by
  intro m
  refine ⟨pack1_length m, fun x y => bitAt_pack1_cell m, fun x y col c hx hy hcol hc => ?_,
    fun j => bitAt_pack1_padding m⟩
  rw [bitAt_pack1_cell m hx hy, onAt_of_getElem? _ hcol hc]

end Sys2Proof
end

section
/-! PROOF. The decoder and the encoder (spec/30_encoding.md R90 to R97, R131): the rows of the opcode map, the shape of
a mode-2 stage frame, the decoder on a whole frame, and that the two undo each other. -/

namespace Sys2Proof

/-- Each row is the row of one listed opcode, in the order of R95. -/
theorem opcodeTable_map_opcode : opcodeTable.map OpcodeRow.opcode = Param.listedOpcodes := rfl

theorem listedOpcodes_nodup : Param.listedOpcodes.Nodup := by decide

/-- A listed opcode has one row, and the search finds it. -/
theorem find?_opcodeTable_of_mem {row : OpcodeRow} (hrow : row ∈ opcodeTable) :
    opcodeTable.find? (fun r => r.opcode = row.opcode) = some row := by
  cases hfind : opcodeTable.find? (fun r => r.opcode = row.opcode) with
  | none => simpa using List.find?_eq_none.mp hfind row hrow
  | some found =>
    have hop : found.opcode = row.opcode := by simpa using List.find?_some hfind
    have hnodup : (opcodeTable.map OpcodeRow.opcode).Nodup := opcodeTable_map_opcode ▸ listedOpcodes_nodup
    rw [List.inj_on_of_nodup_map hnodup (List.mem_of_find?_eq_some hfind) hrow hop]

theorem mem_listedOpcodes {op : Byte} : op ∈ Param.listedOpcodes ↔ ∃ row ∈ opcodeTable, row.opcode = op := by
  rw [← opcodeTable_map_opcode, List.mem_map]

theorem find?_opcodeTable_eq_none {op : Byte} (hop : op ∉ Param.listedOpcodes) :
    opcodeTable.find? (fun r => r.opcode = op) = none := by
  simpa [mem_listedOpcodes] using hop

/-- The instruction of a row stands for `CMD` with the row's opcode (R101). -/
theorem request?_of_mem {row : OpcodeRow} (hrow : row ∈ opcodeTable) (cfg : Config) (p : List Byte) (resp : Bool) :
    (row.build p resp).request? cfg = some (.cmd row.opcode p resp) := by
  revert row
  simp [opcodeTable, Instr.request?]

theorem request?_monoStage {cfg : Config} {op : Byte} (hop : cfg.monoStageOp = some op) (x : Fin 9)
    (packed : Vector Byte 5) (resp : Bool) :
    (Instr.monoStage x packed resp).request? cfg = some (.cmd op (monoStageParams x packed) resp) := by
  simp [Instr.request?, hop]

theorem request?_monoCommit {cfg : Config} {op : Byte} (hop : cfg.monoCommitOp = some op) (resp : Bool) :
    (Instr.monoCommit resp).request? cfg = some (.cmd op [] resp) := by
  simp [Instr.request?, hop]

theorem canonical_of_mem {row : OpcodeRow} (hrow : row ∈ opcodeTable) (cfg : Config) (p : List Byte) (resp : Bool) :
    (row.build p resp).canonical cfg = true := by
  revert row
  simp [opcodeTable, Instr.canonical]

theorem admits_iff {cfg : Config} {op : Byte} :
    cfg.admits op = true ↔ op ∈ Param.listedOpcodes ∨ op ∈ cfg.extraOpcodes := by
  simp [Config.admits]

/-- The stage shape of R226 is that of the parameters of a stage command and of no others. -/
theorem monoStageShape?_eq_some {p : List Byte} {x : Fin 9} {packed : Vector Byte 5} :
    monoStageShape? p = some (x, packed) ↔ p = monoStageParams x packed := by
  constructor
  · intro h
    unfold monoStageShape? at h
    split at h
    · split at h
      · cases h
        simp [monoStageParams]
      · cases h
    · cases h
  · rintro rfl
    obtain ⟨⟨bytes⟩, hlen⟩ := packed
    match bytes, hlen with
    | [b0, b1, b2, b3, b4], _ =>
      have hx : x.val % 256 = x.val := Nat.mod_eq_of_lt (by omega)
      simp [monoStageParams, monoStageShape?, hx]

theorem monoStageShape?_nil : monoStageShape? [] = none := rfl

/-! What an instruction that stands for a command encodes to. -/

theorem encode_of_request? {cfg : Config} {i : Instr} {op : Byte} {p : List Byte} {resp : Bool}
    (h : i.request? cfg = some (.cmd op p resp)) : encode cfg i = some (frameOf op p) := by
  simp [encode, Instr.command?, h]

theorem resp_of_request? {cfg : Config} {i : Instr} {r : Request} (h : i.request? cfg = some r) :
    i.resp cfg = r.resp := by
  simp [Instr.resp, h]

/-! The decoder on a frame. -/

section
variable {cfg : Config} {resp : Bool} {op : Byte} {p : List Byte} {i : Instr}

theorem decode_of_mem {row : OpcodeRow} (hrow : row ∈ opcodeTable) :
    decode cfg resp (frameOf row.opcode p) = .ok (row.build p resp) := by
  simp [decode, frameOf, find?_opcodeTable_of_mem hrow]

theorem decode_of_not_listed (hop : op ∉ Param.listedOpcodes) :
    decode cfg resp (frameOf op p) = decodeParameterOpcode cfg resp op p := by
  simp [decode, frameOf, find?_opcodeTable_eq_none hop]

/-- Every byte list the decoder accepts is a frame. -/
theorem exists_frameOf_of_decode {bytes : List Byte} (h : decode cfg resp bytes = .ok i) :
    ∃ op p, bytes = frameOf op p := by
  unfold decode at h
  split at h
  · rename_i b0 b1 op p
    split at h
    · rename_i hmagic
      obtain ⟨rfl, rfl⟩ := hmagic
      exact ⟨op, p, rfl⟩
    · cases h
  · cases h

theorem decodeParameterOpcode_stage {x : Fin 9} {packed : Vector Byte 5} (hadm : cfg.admits op = true)
    (hop : cfg.monoStageOp = some op) :
    decodeParameterOpcode cfg resp op (monoStageParams x packed) = .ok (.monoStage x packed resp) := by
  simp [decodeParameterOpcode, hadm, hop, monoStageShape?_eq_some.mpr rfl]

theorem decodeParameterOpcode_commit (hadm : cfg.admits op = true) (hop : cfg.monoCommitOp = some op) :
    decodeParameterOpcode cfg resp op [] = .ok (.monoCommit resp) := by
  simp [decodeParameterOpcode, hadm, hop, monoStageShape?_nil]

theorem decodeParameterOpcode_not_admitted (hadm : cfg.admits op = false) :
    decodeParameterOpcode cfg resp op p = .error (.opcodeNotAdmitted op) := by
  simp [decodeParameterOpcode, hadm]

/-- A frame of mode 2 under the configuration: the stage opcode with a stage frame's shape, or the commit opcode with no
parameters (R226). -/
def Config.MonoFrame (cfg : Config) (op : Byte) (p : List Byte) : Prop :=
  ((monoStageShape? p).isSome = true ∧ cfg.monoStageOp = some op) ∨ (p = [] ∧ cfg.monoCommitOp = some op)

theorem decodeParameterOpcode_extra (hadm : cfg.admits op = true) (hmono : ¬ cfg.MonoFrame op p) :
    decodeParameterOpcode cfg resp op p = .ok (.extraOpcode op p resp) := by
  obtain ⟨hstage, hcommit⟩ := not_or.mp hmono
  unfold decodeParameterOpcode
  rw [if_pos hadm]
  split
  · rename_i hshape
    exact if_neg fun hop => hstage ⟨by simp [hshape], hop⟩
  · exact if_neg fun ⟨hop, hp⟩ => hcommit ⟨hp, hop⟩

/-- Under an opcode that is a parameter the decoder knows three forms, and they exclude each other. -/
theorem decodeParameterOpcode_ok (h : decodeParameterOpcode cfg resp op p = .ok i) :
    cfg.admits op = true ∧
      ((∃ x packed, p = monoStageParams x packed ∧ cfg.monoStageOp = some op ∧ i = .monoStage x packed resp) ∨
       (p = [] ∧ cfg.monoCommitOp = some op ∧ i = .monoCommit resp) ∨
       (¬ cfg.MonoFrame op p ∧ i = .extraOpcode op p resp)) := by
  cases hadm : cfg.admits op with
  | false => simp [decodeParameterOpcode_not_admitted hadm] at h
  | true =>
    refine ⟨rfl, ?_⟩
    by_cases hmono : cfg.MonoFrame op p
    · obtain ⟨hshape, hop⟩ | ⟨rfl, hop⟩ := hmono
      · obtain ⟨⟨x, packed⟩, hx⟩ := Option.isSome_iff_exists.mp hshape
        obtain rfl := monoStageShape?_eq_some.mp hx
        rw [decodeParameterOpcode_stage hadm hop] at h
        cases h
        exact .inl ⟨x, packed, rfl, hop, rfl⟩
      · rw [decodeParameterOpcode_commit hadm hop] at h
        cases h
        exact .inr (.inl ⟨rfl, hop, rfl⟩)
    · rw [decodeParameterOpcode_extra hadm hmono] at h
      cases h
      exact .inr (.inr ⟨hmono, rfl⟩)

theorem decode_frameOf_not_admitted (hadm : cfg.admits op = false) :
    decode cfg resp (frameOf op p) = .error (.opcodeNotAdmitted op) := by
  have hop : op ∉ Param.listedOpcodes := fun hl => by simp [admits_iff.mpr (.inl hl)] at hadm
  rw [decode_of_not_listed hop, decodeParameterOpcode_not_admitted hadm]

theorem decode_tooShort {bytes : List Byte} (h : bytes.length < 3) : decode cfg resp bytes = .error .tooShort := by
  unfold decode
  split
  · simp only [List.length_cons] at h
    omega
  · rfl

/-- An admitted opcode makes an instruction of any parameters. -/
theorem exists_decode_of_admits (hadm : cfg.admits op = true) (p : List Byte) :
    ∃ i, decode cfg resp (frameOf op p) = .ok i := by
  by_cases hop : op ∈ Param.listedOpcodes
  · obtain ⟨row, hrow, rfl⟩ := mem_listedOpcodes.mp hop
    exact ⟨_, decode_of_mem hrow⟩
  · rw [decode_of_not_listed hop, decodeParameterOpcode, if_pos hadm]
    split
    · split <;> exact ⟨_, rfl⟩
    · split <;> exact ⟨_, rfl⟩

end

/-! The canonical instructions: those a frame decodes to. -/

section
variable {cfg : Config} {i : Instr}

theorem canonical_extraOpcode {v : Byte} {p : List Byte} {resp : Bool} :
    (Instr.extraOpcode v p resp).canonical cfg = true ↔
      v ∉ Param.listedOpcodes ∧ v ∈ cfg.extraOpcodes ∧ ¬ cfg.MonoFrame v p := by
  simp [Instr.canonical, Config.MonoFrame, and_assoc, imp_iff_not_or]

theorem canonical_monoStage {x : Fin 9} {packed : Vector Byte 5} {resp : Bool} :
    (Instr.monoStage x packed resp).canonical cfg = true ↔
      ∃ op, cfg.monoStageOp = some op ∧ op ∉ Param.listedOpcodes ∧ op ∈ cfg.extraOpcodes := by
  cases h : cfg.monoStageOp <;> simp [Instr.canonical, h]

theorem canonical_monoCommit {resp : Bool} :
    (Instr.monoCommit resp).canonical cfg = true ↔
      ∃ op, cfg.monoCommitOp = some op ∧ op ∉ Param.listedOpcodes ∧ op ∈ cfg.extraOpcodes := by
  cases h : cfg.monoCommitOp <;> simp [Instr.canonical, h]

/-- A canonical instruction is built by a row of the opcode map or stands under an opcode that is a parameter. -/
theorem canonical_cases (h : i.canonical cfg = true) :
    (∃ p resp, ∃ row ∈ opcodeTable, i = row.build p resp) ∨ (∃ v p resp, i = .extraOpcode v p resp) ∨
      (∃ x packed resp, i = .monoStage x packed resp) ∨ (∃ resp, i = .monoCommit resp) := by
  cases i with
  | extraOpcode v p resp => exact .inr (.inl ⟨v, p, resp, rfl⟩)
  | monoStage x packed resp => exact .inr (.inr (.inl ⟨x, packed, resp, rfl⟩))
  | monoCommit resp => exact .inr (.inr (.inr ⟨resp, rfl⟩))
  | cmd | encFullMono | encColMono | encColGrey | encWideMono => cases h
  | brightness p resp | pattern p resp | bootloaderReset p resp | sleep p resp | animate p resp | panic p resp
  | draw p resp | stageGreyCol p resp | drawGreyColBuffer p resp | setText p resp | startGame p resp
  | gameControl p resp | setColor p resp | displayOn p resp | invertScreen p resp | setPixelColumn p resp
  | flushFramebuffer p resp | screenSaver p resp | setFps p resp | setPowerMode p resp | version p resp =>
    exact .inl ⟨p, resp, by simp [opcodeTable]⟩

end

/-- Settles O3: a listed opcode's row is the one the decoder finds, and an opcode that is a parameter has no row, so
that the decoder goes by the frame's shape. -/
theorem decodingAnEncodedCommandGivesItBack : Obligations.DecodingAnEncodedCommandGivesItBack := by
  intro cfg i hcan
  obtain ⟨p, resp, row, hrow, rfl⟩ | ⟨v, p, resp, rfl⟩ | ⟨x, packed, resp, rfl⟩ | ⟨resp, rfl⟩ := canonical_cases hcan
  · have hreq := request?_of_mem hrow cfg p resp
    rw [resp_of_request? hreq]
    exact ⟨_, encode_of_request? hreq, decode_of_mem hrow⟩
  · obtain ⟨hv, hextra, hmono⟩ := canonical_extraOpcode.mp hcan
    refine ⟨frameOf v p, rfl, ?_⟩
    rw [decode_of_not_listed hv]
    exact decodeParameterOpcode_extra (admits_iff.mpr (.inr hextra)) hmono
  · obtain ⟨op, hstage, hop, hextra⟩ := canonical_monoStage.mp hcan
    have hreq := request?_monoStage hstage x packed resp
    refine ⟨_, encode_of_request? hreq, ?_⟩
    rw [resp_of_request? hreq, decode_of_not_listed hop]
    exact decodeParameterOpcode_stage (admits_iff.mpr (.inr hextra)) hstage
  · obtain ⟨op, hcommit, hop, hextra⟩ := canonical_monoCommit.mp hcan
    have hreq := request?_monoCommit hcommit resp
    refine ⟨_, encode_of_request? hreq, ?_⟩
    rw [resp_of_request? hreq, decode_of_not_listed hop]
    exact decodeParameterOpcode_commit (admits_iff.mpr (.inr hextra)) hcommit

/-- What a frame decodes to is canonical and stands for `CMD` with the frame's opcode and parameters (R101). -/
theorem request?_of_decode {cfg : Config} {resp : Bool} {op : Byte} {p : List Byte} {i : Instr}
    (h : decode cfg resp (frameOf op p) = .ok i) :
    i.request? cfg = some (.cmd op p resp) ∧ i.canonical cfg = true := by
  by_cases hop : op ∈ Param.listedOpcodes
  · obtain ⟨row, hrow, rfl⟩ := mem_listedOpcodes.mp hop
    rw [decode_of_mem hrow] at h
    cases h
    exact ⟨request?_of_mem hrow cfg p resp, canonical_of_mem hrow cfg p resp⟩
  · rw [decode_of_not_listed hop] at h
    obtain ⟨hadm, hform⟩ := decodeParameterOpcode_ok h
    have hextra : op ∈ cfg.extraOpcodes := (admits_iff.mp hadm).resolve_left hop
    obtain ⟨x, packed, rfl, hstage, rfl⟩ | ⟨rfl, hcommit, rfl⟩ | ⟨hmono, rfl⟩ := hform
    · exact ⟨request?_monoStage hstage x packed resp, canonical_monoStage.mpr ⟨op, hstage, hop, hextra⟩⟩
    · exact ⟨request?_monoCommit hcommit resp, canonical_monoCommit.mpr ⟨op, hcommit, hop, hextra⟩⟩
    · exact ⟨rfl, canonical_extraOpcode.mpr ⟨hop, hextra, hmono⟩⟩

/-- Settles O4: the decoder accepts frames only, and what it answers stands for the frame's own opcode and
parameters. -/
theorem encodingADecodedFrameGivesItBack : Obligations.EncodingADecodedFrameGivesItBack := by
  intro cfg resp bytes i h
  obtain ⟨op, p, rfl⟩ := exists_frameOf_of_decode h
  obtain ⟨hreq, hcan⟩ := request?_of_decode h
  exact ⟨encode_of_request? hreq, resp_of_request? hreq, hcan⟩

/-- Settles O5: an accepted list is a frame, and a frame is accepted exactly under an admitted opcode. -/
theorem decoderAcceptsExactlyAdmittedFrames : Obligations.DecoderAcceptsExactlyAdmittedFrames := by
  refine ⟨fun cfg resp b0 b1 op p => ⟨?_, ?_⟩, fun cfg resp op p => decode_frameOf_not_admitted,
    fun cfg resp bytes => decode_tooShort⟩
  · rintro ⟨i, h⟩
    obtain ⟨op', p', hframe⟩ := exists_frameOf_of_decode h
    cases hframe
    refine ⟨rfl, rfl, ?_⟩
    by_contra hadm
    exact absurd (h.symm.trans (decode_frameOf_not_admitted (by simpa using hadm))) (by simp)
  · rintro ⟨rfl, rfl, hadm⟩
    exact exists_decode_of_admits hadm p

/-! The header words of the listed opcodes. -/

/-- The header word `0x32AC00 | op` is the frame of `op` without parameters (R94). -/
theorem tableBytes_header (op : Byte) : tableBytes 24 (0x32AC00 + op.toNat) = frameOf op [] := by
  have hop : op.toNat < 256 := op.isLt
  have h0 : (0x32AC00 + op.toNat) / 65536 = 0x32 := by omega
  have h1 : (0x32AC00 + op.toNat) / 256 = 0x32AC := by omega
  have h2 : BitVec.ofNat 8 (0x32AC00 + op.toNat) = op :=
    BitVec.eq_of_toNat_eq (by simp only [BitVec.toNat_ofNat]; omega)
  rw [tableBytes, headerBytes, h0, h1, h2]
  rfl

theorem decodeTableWord_of_mem {row : OpcodeRow} (hrow : row ∈ opcodeTable) :
    decodeTableWord 24 (0x32AC00 + row.opcode.toNat) = some (row.build [] false) := by
  rw [decodeTableWord, tableBytes_header, decode_of_mem hrow]

/-- Settles O6: the header word of each row of the opcode map, row by row. -/
theorem listedHeaderWordsDecode : Obligations.ListedHeaderWordsDecode := by
  unfold Obligations.ListedHeaderWordsDecode
  have hrows : ∀ row ∈ opcodeTable,
      decodeTableWord 24 (0x32AC00 + row.opcode.toNat) = some (row.build [] false) := fun _ => decodeTableWord_of_mem
  simpa [opcodeTable] using hrows

end Sys2Proof
end

section
/-! PROOF. The magic of every frame, also of those a write call carries (spec/30_encoding.md R91). -/

namespace Sys2Proof.Machine

theorem exists_command_of_mem_frames {cfg : Config} {i : Instr} {f : Frame} (hf : f ∈ i.frames cfg) :
    ∃ r op p, i.request? cfg = some r ∧ (op, p) ∈ r.commands cfg ∧ f = frameOf op p := by
  cases hreq : i.request? cfg with
  | none => simp [Instr.frames, hreq] at hf
  | some r =>
    obtain ⟨⟨op, p⟩, hc, rfl⟩ : ∃ c ∈ r.commands cfg, frameOf c.1 c.2 = f := by
      simpa [Instr.frames, hreq, Request.frames] using hf
    exact ⟨r, op, p, rfl, hc, rfl⟩

/-- Only the step of WRITE logs a write call, and it writes frame `fidx` (R135). -/
theorem exec_logs_write {i : Instr} {s t : State} {f : Frame} {a : Reply} (h : exec i s = .next t)
    (hlog : t.log = s.log ++ [(.write f, a)]) : s.phase = .write ∧ s.frames[s.fidx]? = some f := by
  rw [exec_eq_serve] at h
  obtain ⟨-, rfl⟩ | ⟨-, h⟩ | ⟨-, h⟩ | ⟨hp, h⟩ | ⟨-, h⟩ | ⟨-, h⟩ := serve_next h
  · simp at hlog
  · obtain ⟨r, -, -, ⟨-, rfl⟩ | ⟨-, rfl⟩⟩ := checkStep_next h <;> simp at hlog
  · obtain ⟨b, -, rfl⟩ | ⟨c, n, -, rfl⟩ := openStep_next h <;> simp at hlog
  · obtain ⟨-, rfl⟩ | ⟨-, g, hg, ⟨b, -, rfl⟩ | ⟨c, n, -, rfl⟩⟩ := writeStep_next h <;> simp_all
  · obtain ⟨b, -, -, rfl⟩ | ⟨b, -, -, rfl⟩ | ⟨c, n, -, rfl⟩ := readStep_next h <;> simp at hlog
  · obtain ⟨b, -, rfl⟩ | ⟨c, n, -, ⟨-, rfl⟩ | ⟨-, rfl⟩⟩ := closeStep_next h <;> simp at hlog

theorem step_logs_write {s t : State} {f : Frame} {a : Reply} (h : step s = .next t)
    (hlog : t.log = s.log ++ [(.write f, a)]) : s.phase = .write ∧ s.frames[s.fidx]? = some f := by
  obtain ⟨-, -, rfl⟩ | ⟨-, i, u, hmove, hexec⟩ | ⟨-, -, rfl⟩ := step_next h
  · simp at hlog
  · obtain ⟨-, q, -, rfl⟩ | ⟨-, -, rfl⟩ := nextMove_run hmove
    · exact exec_logs_write (s := s.withWaiting q) hexec hlog
    · exact exec_logs_write hexec hlog
  · simp at hlog

/-- Settles O2: the frames of an instruction are those of its commands, and a write call carries one of the frames
CHECK built for the latched request, as the invariant says. -/
theorem everyWrittenFrameStartsWithMagic : Obligations.EveryWrittenFrameStartsWithMagic := by
  refine ⟨fun cfg i f => exists_command_of_mem_frames, fun s t f a hinv hstep hlog => ?_⟩
  obtain ⟨hp, hf⟩ := step_logs_write hstep hlog
  obtain ⟨i, hl, hframes, -, -⟩ := hinv.framesBuilt (by rw [hp]; rfl)
  have hmem : f ∈ i.frames s.cfg := hframes ▸ List.mem_of_getElem? hf
  obtain ⟨r, op, p, -, -, hmagic⟩ := exists_command_of_mem_frames hmem
  exact ⟨i, op, p, hl, hmem, hmagic⟩

end Sys2Proof.Machine
end

section
/-! PROOF. Outside IDLE a listed opcode's instruction is served as `CMD` with its opcode (spec/30_encoding.md R101). -/

namespace Sys2Proof.Machine

/-- The latched name is read by the accept only. -/
theorem serve_congr_of_ne_idle (i j : Instr) (r? : Option Request) {s : State} (hp : s.phase ≠ .idle) :
    serve i r? s = serve j r? s := by
  unfold serve
  split <;> simp_all

/-- Settles O50: both stand for the same request. -/
theorem aListedOpcodeServesAsItsCmd : Obligations.AListedOpcodeServesAsItsCmd := by
  intro row hrow p r s hp
  rw [exec_eq_serve, exec_eq_serve, request?_of_mem hrow]
  exact serve_congr_of_ne_idle _ _ _ hp

end Sys2Proof.Machine
end

section
/-! PROOF. What CHECK refuses, and by which reason (spec/30_encoding.md R99, spec/60_exceptions.md R305). -/

namespace Sys2Proof.Machine

/-- Settles O7, by the agreement of each check of R305 with its clause of R99. -/
theorem refusedExactlyWhenNotWellFormed : Obligations.RefusedExactlyWhenNotWellFormed :=
  fun _ _ => refusal?_eq_none

@[simp] theorem monoStageParams_length (x : Fin 9) (packed : Vector Byte 5) :
    (monoStageParams x packed).length = 6 := by
  simp [monoStageParams]

/-! The reason each check gives. -/

section
variable {cfg : Config} {op : Byte} {p : List Byte} {m : CellMatrix}

theorem commandRefusal?_of_not_admitted (hadm : cfg.admits op = false) :
    commandRefusal? cfg op p = some (.opcodeNotAdmitted op) := by
  simp [commandRefusal?, hadm]

theorem commandRefusal?_of_too_long (hadm : cfg.admits op = true) (hfits : cfg.fits p = false) :
    commandRefusal? cfg op p = some (.paramsTooLong p.length) := by
  simp [commandRefusal?, hadm, hfits]

theorem matrixRefusal?_of_mixed (hm : m.uniform = false) : matrixRefusal? m = some .malformedMatrix := by
  simp [matrixRefusal?, hm]

theorem monoRefusal?_of_unset (h : cfg.monoStageOp = none ∨ cfg.monoCommitOp = none) :
    monoRefusal? cfg = some .monoOpcodesUnset := by
  unfold monoRefusal?
  split <;> simp_all

theorem monoRefusal?_of_stage_not_admitted {stage commit : Byte} (hs : cfg.monoStageOp = some stage)
    (hc : cfg.monoCommitOp = some commit) (hadm : cfg.admits stage = false) :
    monoRefusal? cfg = some (.opcodeNotAdmitted stage) := by
  simp [monoRefusal?, hs, hc, hadm]

theorem monoRefusal?_of_commit_not_admitted {stage commit : Byte} (hs : cfg.monoStageOp = some stage)
    (hc : cfg.monoCommitOp = some commit) (hstage : cfg.admits stage = true) (hadm : cfg.admits commit = false) :
    monoRefusal? cfg = some (.opcodeNotAdmitted commit) := by
  simp [monoRefusal?, hs, hc, hstage, hadm]

/-- Mode 2 gives its opcodes' reason where the matrix is well formed. -/
theorem refusal?_encColMono_of_uniform (hm : m.uniform = true) :
    Request.refusal? cfg (.encColMono m) = monoRefusal? cfg := by
  simp [Request.refusal?, matrixRefusal?_eq_none.mpr hm]

theorem refusal?_encColGrey_of_bin (hm : m.uniform = true) (hbin : m.noBin = false) :
    Request.refusal? cfg (.encColGrey m) = some .binaryInGreyMode := by
  simp [Request.refusal?, matrixRefusal?_eq_none.mpr hm, hbin]

end

section
variable {s : State} {i : Instr} (hp : s.phase = .check)
include hp

theorem exec_of_check (i : Instr) : exec i s = checkStep (i.request? s.cfg) s := by
  rw [exec_eq_serve, serve, hp]

theorem exec_refused_of_refusal? {r : Request} {why : Refusal} (hreq : i.request? s.cfg = some r)
    (hwhy : Request.refusal? s.cfg r = some why) : exec i s = .refused why := by
  simp [exec_of_check hp, checkStep, hreq, hwhy]

/-- An instruction without a request term lacks its mode-2 opcode (R99(b)). -/
theorem exec_refused_of_no_request (hreq : i.request? s.cfg = none) : exec i s = .refused .monoOpcodesUnset := by
  simp [exec_of_check hp, checkStep, hreq]

theorem exec_refused_iff_not_wellFormed (i : Instr) :
    (∃ why, exec i s = .refused why) ↔ i.wellFormed s.cfg = false := by
  cases hreq : i.request? s.cfg with
  | none => simp [Instr.wellFormed, hreq, exec_refused_of_no_request hp hreq]
  | some r =>
    have hwf : i.wellFormed s.cfg = r.wellFormed s.cfg := by simp [Instr.wellFormed, hreq]
    rw [hwf]
    cases hwhy : Request.refusal? s.cfg r with
    | some why =>
      have hnot : r.wellFormed s.cfg ≠ true := fun h => by simp [refusal?_eq_none.mpr h] at hwhy
      simpa [exec_refused_of_refusal? hp hreq hwhy] using hnot
    | none =>
      simp only [exec_of_check hp, checkStep, hreq, hwhy, refusal?_eq_none.mp hwhy]
      split <;> simp

end

/-- Settles O8: CHECK refuses by what `refusal?` says of the request an instruction stands for, and a mode-2 frame
without its opcode has none. -/
theorem illFormedRequestsAreRefusedByName : Obligations.IllFormedRequestsAreRefusedByName := by
  intro s hp
  refine ⟨exec_refused_iff_not_wellFormed hp, fun op p r hadm => ?_, fun op p r hadm hfits => ?_,
    fun row hrow p r hfits => ?_, fun m hm => ?_, fun m hm hunset => ?_,
    fun m stage commit hm hs hc => ⟨fun hadm => ?_, fun hstage hadm => ?_⟩, fun x packed r hunset => ?_,
    fun x packed r op hop => ⟨fun hadm => ?_, fun hadm hfits => ?_⟩, fun r hunset => ?_, fun r op hop hadm => ?_,
    fun m hm hbin => ?_⟩
  · have hwhy := commandRefusal?_of_not_admitted (p := p) hadm
    exact ⟨exec_refused_of_refusal? hp rfl hwhy, exec_refused_of_refusal? hp rfl hwhy⟩
  · have hwhy := commandRefusal?_of_too_long hadm hfits
    exact ⟨exec_refused_of_refusal? hp rfl hwhy, exec_refused_of_refusal? hp rfl hwhy⟩
  · have hadm : s.cfg.admits row.opcode = true := admits_iff.mpr (.inl (mem_listedOpcodes.mpr ⟨row, hrow, rfl⟩))
    exact exec_refused_of_refusal? hp (request?_of_mem hrow ..) (commandRefusal?_of_too_long hadm hfits)
  · have hwhy := matrixRefusal?_of_mixed hm
    exact ⟨exec_refused_of_refusal? hp rfl hwhy, exec_refused_of_refusal? hp rfl (by simp [Request.refusal?, hwhy]),
      exec_refused_of_refusal? hp rfl (by simp [Request.refusal?, hwhy]), exec_refused_of_refusal? hp rfl hwhy⟩
  · exact exec_refused_of_refusal? hp rfl ((refusal?_encColMono_of_uniform hm).trans (monoRefusal?_of_unset hunset))
  · exact exec_refused_of_refusal? hp rfl
      ((refusal?_encColMono_of_uniform hm).trans (monoRefusal?_of_stage_not_admitted hs hc hadm))
  · exact exec_refused_of_refusal? hp rfl
      ((refusal?_encColMono_of_uniform hm).trans (monoRefusal?_of_commit_not_admitted hs hc hstage hadm))
  · exact exec_refused_of_no_request hp (by simp [Instr.request?, hunset])
  · exact exec_refused_of_refusal? hp (request?_monoStage hop ..) (commandRefusal?_of_not_admitted hadm)
  · have hwhy := commandRefusal?_of_too_long (p := monoStageParams x packed) hadm hfits
    rw [monoStageParams_length] at hwhy
    exact exec_refused_of_refusal? hp (request?_monoStage hop ..) hwhy
  · exact exec_refused_of_no_request hp (by simp [Instr.request?, hunset])
  · exact exec_refused_of_refusal? hp (request?_monoCommit hop r) (commandRefusal?_of_not_admitted hadm)
  · exact exec_refused_of_refusal? hp rfl (refusal?_encColGrey_of_bin hm hbin)

end Sys2Proof.Machine
end

section
/-! PROOF. A step after placing a table word on the request port (spec/30_encoding.md R94, spec/40_codec.md R133). -/

namespace Sys2Proof.Machine

/-- The one waiting request is the one chosen, whatever the choice (R315). -/
theorem pick_singleton (k : Nat) (i : Instr) : pick k [[i]] = some (i, [[]]) := by
  simp [pick]

/-- Settles O36: the word's instruction is the only one waiting, so it is chosen and accepted. -/
theorem stepRunsThePlacedWord : Obligations.StepRunsThePlacedWord := by
  intro s nbits w i hword
  have hplaced : s.withFetchWord nbits w = s.onlyWaiting [i] := by simp [State.withFetchWord, hword]
  have hpick := pick_singleton (Config.schedule (s.onlyWaiting [i]).completions.length) i
  rw [hplaced]
  exact ⟨step_of_chosen rfl rfl hpick, _, step_of_chosen_next rfl rfl hpick, rfl, rfl, rfl⟩

end Sys2Proof.Machine
end

section
/-! PROOF. The step of each phase of a session by the answer of the transport call it makes (spec/40_codec.md R134 to
R138), as exact next states. -/

namespace Sys2Proof.Machine

/-- The completion of a request on which an error is recorded (R138). -/
theorem complete_of_err {s : State} {code : Code} (he : s.err = some code) (hcode : code ≠ .ok) (resp : Bool) :
    s.complete resp = { s with
      completions := s.completions ++ [⟨code, if code.isTransport then s.cause else none, none⟩]
      latch := none, phase := .idle } := by
  simp [State.complete, State.completion, he, hcode]

/-- The completion of a request on which nothing failed gives what `rbuf` holds, if a response was asked for (R138). -/
theorem complete_of_no_err {s : State} (he : s.err = none) (resp : Bool) :
    s.complete resp = { s with
      completions := s.completions ++ [⟨.ok, none, if resp then s.rbuf else none⟩]
      latch := none, phase := .idle } := by
  simp [State.complete, State.completion, he, Code.isTransport, Code.number]

/-- A call uses up the answer it returns, and is logged with it. -/
theorem record_of_reply {s : State} {a : Reply} (h : s.reply = a) (c : Call) :
    s.record c = s.answered c a s.replies.tail := by
  rw [State.record, State.answered, h]

section
variable {s : State} (i : Instr) {b : List Byte} {c : Cause} {n : Nat}

theorem exec_of_opening (hp : s.phase = .opening) : exec i s = openStep (i.resp s.cfg) s := by
  rw [exec_eq_serve, serve, hp, respOf_request?]

theorem exec_of_write (hp : s.phase = .write) : exec i s = writeStep (i.resp s.cfg) s := by
  rw [exec_eq_serve, serve, hp, respOf_request?]

theorem exec_of_read (hp : s.phase = .read) : exec i s = readStep s := by
  rw [exec_eq_serve, serve, hp]

theorem exec_of_close (hp : s.phase = .close) : exec i s = closeStep (i.resp s.cfg) s := by
  rw [exec_eq_serve, serve, hp, respOf_request?]

theorem exec_of_open_ok (hp : s.phase = .opening) (ha : s.reply = .ok b) :
    exec i s = .next (s.answered .openSession (.ok b) s.replies.tail).opened := by
  simp [exec_of_opening i hp, openStep, ha, record_of_reply ha]

theorem exec_of_open_fail (hp : s.phase = .opening) (ha : s.reply = .fail c n) :
    exec i s = .next (((s.answered .openSession (.fail c n) s.replies.tail).raiseWith .transportOpen c).complete
      (i.resp s.cfg)) := by
  simp [exec_of_opening i hp, openStep, ha, record_of_reply ha]

theorem exec_of_all_written (hp : s.phase = .write) (hx : s.fidx = s.frames.length) :
    exec i s = .next (s.goto (if i.resp s.cfg then .read else .close)) := by
  rw [exec_of_write i hp, writeStep, if_pos hx]

section
variable {f : Frame} (hf : s.frames[s.fidx]? = some f)
include hf

theorem fidx_ne_length_of_frame : s.fidx ≠ s.frames.length :=
  ((List.getElem?_eq_some_iff.mp hf).1).ne

theorem exec_of_write_ok (hp : s.phase = .write) (ha : s.reply = .ok b) :
    exec i s = .next (s.answered (.write f) (.ok b) s.replies.tail).advance := by
  simp [exec_of_write i hp, writeStep, fidx_ne_length_of_frame hf, hf, ha, record_of_reply ha]

theorem exec_of_write_fail (hp : s.phase = .write) (ha : s.reply = .fail c n) :
    exec i s = .next
      (((s.answered (.write f) (.fail c n) s.replies.tail).raiseWith .transportWrite c).goto .close) := by
  simp [exec_of_write i hp, writeStep, fidx_ne_length_of_frame hf, hf, ha, record_of_reply ha]

end

theorem exec_of_read_whole (hp : s.phase = .read) (ha : s.reply = .ok b) (hb : b.length = 32) :
    exec i s = .next (((s.answered (.read 32) (.ok b) s.replies.tail).receive b).goto .close) := by
  simp [exec_of_read i hp, readStep, ha, hb, record_of_reply ha]

theorem exec_of_read_short (hp : s.phase = .read) (ha : s.reply = .ok b) (hb : b.length < 32) :
    exec i s = .next (((s.answered (.read 32) (.ok b) s.replies.tail).raise .transportShortRead).goto .close) := by
  simp [exec_of_read i hp, readStep, ha, hb, hb.ne, record_of_reply ha]

theorem exec_of_read_overlong (hp : s.phase = .read) (ha : s.reply = .ok b) (hb : 32 < b.length) :
    exec i s = .fault (.overlongRead b.length) := by
  simp [exec_of_read i hp, readStep, ha, hb.ne', hb.not_gt]

theorem exec_of_read_fail (hp : s.phase = .read) (ha : s.reply = .fail c n) :
    exec i s = .next (((s.answered (.read 32) (.fail c n) s.replies.tail).raiseWith .transportRead c).goto .close) := by
  simp [exec_of_read i hp, readStep, ha, record_of_reply ha]

theorem exec_of_close_ok (hp : s.phase = .close) (ha : s.reply = .ok b) :
    exec i s = .next ((s.answered .close (.ok b) s.replies.tail).endSession.complete (i.resp s.cfg)) := by
  simp [exec_of_close i hp, closeStep, ha, record_of_reply ha]

theorem exec_of_close_fail (hp : s.phase = .close) (he : s.err = none) (ha : s.reply = .fail c n) :
    exec i s = .next (((s.answered .close (.fail c n) s.replies.tail).raiseWith .transportClose c).endSession.complete
      (i.resp s.cfg)) := by
  simp [exec_of_close i hp, closeStep, he, ha, record_of_reply ha]

/-- After an earlier error the close's answer changes nothing (R137, D17). -/
theorem exec_of_close_after_err (hp : s.phase = .close) (he : s.err ≠ none) (ha : s.reply ≠ .never) :
    exec i s = .next ((s.record .close).endSession.complete (i.resp s.cfg)) := by
  rw [exec_of_close i hp, closeStep]
  cases hreply : s.reply with
  | ok b => rfl
  | fail c n => exact if_neg he
  | never => exact absurd hreply ha

end

/-- Settles O19: the open's answer decides, and a failed one completes with the error it records. -/
theorem openStartsTheSessionOrCompletes : Obligations.OpenStartsTheSessionOrCompletes := by
  intro i s hp
  refine ⟨fun b ha => exec_of_open_ok i hp ha, fun c n ha => ?_⟩
  rw [exec_of_open_fail i hp ha, complete_of_err (code := .transportOpen) rfl nofun]
  rfl

/-- Settles O20: by whether all frames are written, else by the write's answer. -/
theorem writeSendsTheNextFrame : Obligations.WriteSendsTheNextFrame := fun i _ hp =>
  ⟨exec_of_all_written i hp, fun _ _ hf =>
    ⟨fun _ ha => exec_of_write_ok i hf hp ha, fun _ _ ha => exec_of_write_fail i hf hp ha⟩⟩

/-- Settles O21: by the read's answer and the number of bytes it brings. -/
theorem readKeepsExactlyThirtyTwoBytes : Obligations.ReadKeepsExactlyThirtyTwoBytes := fun i _ hp =>
  ⟨fun _ => exec_of_read_whole i hp, fun _ => exec_of_read_short i hp, fun _ => exec_of_read_overlong i hp,
    fun _ _ => exec_of_read_fail i hp⟩

/-- Settles O22: by whether an error stands before, and if none does by the close's answer. -/
theorem closeEndsTheSessionAndCompletes : Obligations.CloseEndsTheSessionAndCompletes := by
  intro i s hp
  refine ⟨fun b he ha => ?_, fun c n he ha => ?_, fun code he hcode ha => ?_⟩
  · rw [exec_of_close_ok i hp ha, complete_of_no_err (s := (s.answered ..).endSession) he]
    rfl
  · rw [exec_of_close_fail i hp he ha, complete_of_err (code := .transportClose) rfl nofun]
    rfl
  · rw [exec_of_close_after_err i hp (by simp [he]) ha,
      complete_of_err (s := (s.record .close).endSession) he hcode]
    rfl

end Sys2Proof.Machine
end

section
/-! PROOF. A frame (spec/40_codec.md R131), and the one frame CHECK builds for a command (R142, R150 to R171). -/

namespace Sys2Proof.Machine

/-- Settles O1: the magic and the opcode are the three bytes in front of the parameters. -/
theorem frameIsMagicOpcodeParameters : Obligations.FrameIsMagicOpcodeParameters :=
  fun op p => ⟨rfl, frameOf_length op p⟩

theorem fits_nil (cfg : Config) : cfg.fits [] = true := by
  unfold Config.fits
  split <;> simp

section
variable {s : State} (hp : s.phase = .check)
include hp

/-- A well-formed command's frame list is its one frame (R142). -/
theorem exec_of_command {i : Instr} {op : Byte} {p : List Byte} {r : Bool}
    (hreq : i.request? s.cfg = some (.cmd op p r)) (hadm : s.cfg.admits op = true) (hfits : s.cfg.fits p = true) :
    exec i s = .next { s with frames := [frameOf op p], phase := .opening } := by
  have hclear : Request.refusal? s.cfg (.cmd op p r) = none := commandRefusal?_eq_none.mpr ⟨hadm, hfits⟩
  rw [exec_of_check hp, hreq]
  simp only [checkStep, hclear]
  rfl

/-- A listed opcode is admitted, so only the length of its parameters is left to check (R96). -/
theorem exec_of_listed {row : OpcodeRow} (hrow : row ∈ opcodeTable) {p : List Byte} (r : Bool)
    (hfits : s.cfg.fits p = true) :
    exec (row.build p r) s = .next { s with frames := [frameOf row.opcode p], phase := .opening } :=
  exec_of_command hp (request?_of_mem hrow s.cfg p r)
    (admits_iff.mpr (.inl (mem_listedOpcodes.mpr ⟨row, hrow, rfl⟩))) hfits

end

/-- Settles O10: the first ten rows of the opcode map, one by one. -/
theorem commandsZeroToNineBuildTheirFrame : Obligations.CommandsZeroToNineBuildTheirFrame := by
  intro s p r hp hfits
  have hrows : ∀ row ∈ opcodeTable.take 10,
      exec (row.build p r) s = .next { s with frames := [frameOf row.opcode p], phase := .opening } :=
    fun row hrow => exec_of_listed hp (List.mem_of_mem_take hrow) r hfits
  simpa [opcodeTable, frameOf] using hrows

/-- Settles O11: the other eleven rows. -/
theorem commandsFromTenHexBuildTheirFrame : Obligations.CommandsFromTenHexBuildTheirFrame := by
  intro s p r hp hfits
  have hrows : ∀ row ∈ opcodeTable.drop 10,
      exec (row.build p r) s = .next { s with frames := [frameOf row.opcode p], phase := .opening } :=
    fun row hrow => exec_of_listed hp (List.mem_of_mem_drop hrow) r hfits
  simpa [opcodeTable, frameOf] using hrows

/-- Settles O12: each of the four stands for a command with an admitted opcode, and no bound is below zero bytes. -/
theorem cmdAndParameterOpcodesBuildTheirFrame : Obligations.CmdAndParameterOpcodesBuildTheirFrame := fun s hp =>
  ⟨fun _ _ _ hadm hfits => ⟨exec_of_command hp rfl hadm hfits, exec_of_command hp rfl hadm hfits⟩,
    fun _ x packed r hop hadm hfits => exec_of_command hp (request?_monoStage hop x packed r) hadm hfits,
    fun _ r hop hadm => exec_of_command hp (request?_monoCommit hop r) hadm (fits_nil s.cfg)⟩

end Sys2Proof.Machine
end

section
/-! PROOF. What a step adds to the observations (spec/40_codec.md R138, R139, spec/70_reset_and_hazards.md R351). -/

namespace Sys2Proof.Machine

/-- From `s` to `t` the log and the completions have grown by at most one entry each, and the parameters stand. -/
def State.GrowsTo (s t : State) : Prop :=
  t.cfg = s.cfg ∧
  (∃ calls, t.log = s.log ++ calls ∧ calls.length ≤ 1) ∧
  (∃ given, t.completions = s.completions ++ given ∧ given.length ≤ 1)

section
variable {i : Instr} {s t : State}

theorem exec_growsTo (h : exec i s = .next t) : s.GrowsTo t := by
  rw [exec_eq_serve] at h
  obtain ⟨-, rfl⟩ | ⟨-, h⟩ | ⟨-, h⟩ | ⟨-, h⟩ | ⟨-, h⟩ | ⟨-, h⟩ := serve_next h
  · simp [State.GrowsTo]
  · obtain ⟨r, -, -, ⟨-, rfl⟩ | ⟨-, rfl⟩⟩ := checkStep_next h <;> simp [State.GrowsTo]
  · obtain ⟨b, -, rfl⟩ | ⟨c, n, -, rfl⟩ := openStep_next h <;> simp [State.GrowsTo]
  · obtain ⟨-, rfl⟩ | ⟨-, f, -, ⟨b, -, rfl⟩ | ⟨c, n, -, rfl⟩⟩ := writeStep_next h <;> simp [State.GrowsTo]
  · obtain ⟨b, -, -, rfl⟩ | ⟨b, -, -, rfl⟩ | ⟨c, n, -, rfl⟩ := readStep_next h <;> simp [State.GrowsTo]
  · obtain ⟨b, -, rfl⟩ | ⟨c, n, -, ⟨-, rfl⟩ | ⟨-, rfl⟩⟩ := closeStep_next h <;> simp [State.GrowsTo]

/-- The step of an instruction either leaves the request in service or completes it (R138). -/
theorem exec_completions (h : exec i s = .next t) :
    (t.phase ≠ .idle ∧ t.completions = s.completions) ∨
    (s.phase ≠ .idle ∧ t.phase = .idle ∧ t.latch = none ∧ ∃ c, t.completions = s.completions ++ [c]) := by
  rw [exec_eq_serve] at h
  obtain ⟨-, rfl⟩ | ⟨hp, h⟩ | ⟨hp, h⟩ | ⟨hp, h⟩ | ⟨hp, h⟩ | ⟨hp, h⟩ := serve_next h
  · simp
  · obtain ⟨r, -, -, ⟨-, rfl⟩ | ⟨-, rfl⟩⟩ := checkStep_next h <;> simp [hp]
  · obtain ⟨b, -, rfl⟩ | ⟨c, n, -, rfl⟩ := openStep_next h <;> simp [hp]
  · obtain ⟨-, rfl⟩ | ⟨-, f, -, ⟨b, -, rfl⟩ | ⟨c, n, -, rfl⟩⟩ := writeStep_next h
    · cases respOf (i.request? s.cfg) <;> simp
    · simp [hp]
    · simp
  · obtain ⟨b, -, -, rfl⟩ | ⟨b, -, -, rfl⟩ | ⟨c, n, -, rfl⟩ := readStep_next h <;> simp
  · obtain ⟨b, -, rfl⟩ | ⟨c, n, -, ⟨-, rfl⟩ | ⟨-, rfl⟩⟩ := closeStep_next h <;> simp [hp]

end

/-- Settles O26: a reset and a wait add nothing, and an instruction's step at most one entry each. -/
theorem observationsOnlyGrow : Obligations.ObservationsOnlyGrow := by
  intro s t h
  show s.GrowsTo t
  obtain ⟨-, -, rfl⟩ | ⟨-, i, u, hmove, hexec⟩ | ⟨-, -, rfl⟩ := step_next h
  · simp [State.GrowsTo]
  · obtain ⟨-, q, -, rfl⟩ | ⟨-, -, rfl⟩ := nextMove_run hmove
    · exact exec_growsTo (s := s.withWaiting q) hexec
    · exact exec_growsTo hexec
  · simp [State.GrowsTo]

/-- Settles O27: in IDLE a step resets, waits or accepts; elsewhere it is the latched request's. -/
theorem oneCompletionWhenARequestEnds : Obligations.OneCompletionWhenARequestEnds := by
  intro s t h
  obtain ⟨-, hp, rfl⟩ | ⟨-, i, u, hmove, hexec⟩ | ⟨-, hwait, rfl⟩ := step_next h
  · simp [hp]
  · obtain ⟨hp, q, -, rfl⟩ | ⟨hp, -, rfl⟩ := nextMove_run hmove
    · rw [exec_of_idle (s := s.withWaiting q) i hp] at hexec
      cases hexec
      simp [hp]
    · obtain ⟨hbusy, hsame⟩ | ⟨-, hidle, hlatch, hone⟩ := exec_completions hexec
      · simp [hp, hbusy, hsame]
      · simp [hp, hidle, hlatch, hone]
  · simp [nextMove_wait hwait]

end Sys2Proof.Machine
end

section
/-! PROOF. Sessions the transport breaks off: a failed write (spec/40_codec.md R135, R137, spec/60_exceptions.md R306,
R307) and a short read (R136, R303), each through the close to the completion. -/

namespace Sys2Proof.Machine

/-- The bytes of successful writes are those of their frames (R141). -/
theorem writes_deliveredBytes (frames : List Frame) :
    (frames.map fun f => writeOk f []).flatMap deliveredBytes = frames.flatten := by
  rw [List.flatMap_map, List.flatMap_def]
  exact congrArg List.flatten (List.map_id frames)

section
variable {s : State} {i : Instr} {a : Reply} {rest : List Reply}
variable (hr : s.resetLine = false) (hl : s.latch = some i)
include hr hl

theorem step_of_write_fail (hp : s.phase = .write) {f : Frame} (hf : s.frames[s.fidx]? = some f) {c : Cause} {n : Nat}
    (ha : s.replies = .fail c n :: rest) :
    step s = .next (((s.answered (.write f) (.fail c n) rest).raiseWith .transportWrite c).goto .close) := by
  rw [step_of_latched hr (by simp [hp]) hl, exec_of_write_fail i hf hp (State.reply_of_cons ha), ha, List.tail_cons]

theorem step_of_read_short (hp : s.phase = .read) {b : List Byte} (hb : b.length < 32)
    (ha : s.replies = .ok b :: rest) :
    step s = .next (((s.answered (.read 32) (.ok b) rest).raise .transportShortRead).goto .close) := by
  rw [step_of_latched hr (by simp [hp]) hl, exec_of_read_short i hp (State.reply_of_cons ha) hb, ha, List.tail_cons]

/-- Whatever the close answers, the error recorded before is the one reported (R137, R138, D17). -/
theorem step_of_close_after_err (hp : s.phase = .close) {code : Code} (he : s.err = some code) (hcode : code ≠ .ok)
    (ha : s.replies = a :: rest) (hret : a ≠ .never) :
    step s = .next { (s.answered .close a rest).endSession with
      completions := s.completions ++ [⟨code, if code.isTransport then s.cause else none, none⟩]
      latch := none, phase := .idle } := by
  have hreply : s.reply = a := State.reply_of_cons ha
  rw [step_of_latched hr (by simp [hp]) hl, exec_of_close_after_err i hp (by simp [he]) (hreply ▸ hret),
    record_eq_answered ha, complete_of_err (s := (s.answered ..).endSession) he hcode]
  rfl

end

/-- Settles O23: the read records the error and no cause, by the invariant none stands, and the close reports it. -/
theorem shortReadIsReportedAndItsBytesDropped : Obligations.ShortReadIsReportedAndItsBytesDropped := by
  refine ⟨fun s b a rest hinv hr hp ha hb hret => ?_, rfl⟩
  have hn : s.NoOutcome := hinv.noOutcome (by simp [hp]) (by simp [hp])
  obtain ⟨-, i, hl, -⟩ := hinv.readAfterWrites hp
  have hread := step_of_read_short hr hl hp hb ha
  have hclose := step_of_close_after_err 
    (s := ((s.answered (.read 32) (.ok b) (a :: rest)).raise .transportShortRead).goto .close) hr hl rfl rfl nofun rfl
    hret
  refine ⟨_, (runSteps_succ 1 hread).trans (runSteps_succ 0 hclose), rfl, hn.rbuf, ?_⟩
  simp [State.answered, hn.cause]

/-- The state in which the write of frame `f` has failed with cause `c`, the close has answered `a` and the request has
completed with the write's error, the answers `rest` standing next. -/
def State.writeFailed (f : Frame) (c : Cause) (n : Nat) (a : Reply) (rest : List Reply) (s : State) : State :=
  { s with
    phase := .idle, latch := none, session := false, err := some .transportWrite, cause := some c, replies := rest
    log := s.log ++ [(.write f, .fail c n), (.close, a)]
    completions := s.completions ++ [⟨.transportWrite, some c, none⟩] }

/-- A failed write goes to the close at once, and the close completes the request (R135, R137). -/
theorem runSteps_writeFailed {s : State} {i : Instr} {f : Frame} {c : Cause} {n : Nat} {a : Reply} {rest : List Reply}
    (hr : s.resetLine = false) (hl : s.latch = some i) (hp : s.phase = .write) (hf : s.frames[s.fidx]? = some f)
    (ha : s.replies = .fail c n :: a :: rest) (hret : a ≠ .never) :
    runSteps 2 s = .next (s.writeFailed f c n a rest) := by
  have hwrite := step_of_write_fail hr hl hp hf ha
  have hclose := step_of_close_after_err (code := .transportWrite)
    (s := ((s.answered (.write f) (.fail c n) (a :: rest)).raiseWith .transportWrite c).goto .close) hr hl rfl rfl nofun
    rfl hret
  rw [runSteps_succ 1 hwrite, runSteps_succ 0 hclose, runSteps_zero]
  simp [State.answered, State.raiseWith, State.goto, State.endSession, State.writeFailed, Code.isTransport, Code.number]

/-- Settles O32: the session up to frame `k`, then the failed write of frame `k` and the close. -/
theorem aFailedWriteEndsTheRequest : Obligations.AFailedWriteEndsTheRequest := by
  intro s i queues k f c n a rest hp hr hpick hwf hdims hf hret ha
  have hlen : ((i.frames s.cfg).take k).length = k :=
    List.length_take_of_le (List.getElem?_eq_some_iff.mp hf).1.le
  rw [← hlen] at hf ha
  have hwrote := runSteps_sessionWrote hr hp hpick hwf hdims (List.take_append_drop k _).symm ha
  have hfailed := runSteps_writeFailed (rest := rest)
    (s := s.sessionWrote i queues ((i.frames s.cfg).take k) (.fail c n :: a :: rest)) hr rfl rfl hf rfl hret
  have hsteps : k + 5 = 3 + ((i.frames s.cfg).take k).length + 2 := by omega
  refine ⟨_, by rw [hsteps, runSteps_add 2 hwrote]; exact hfailed, rfl, rfl, rfl, hlen, rfl, rfl, rfl, rfl, rfl, ?_, ?_⟩
  · simp [State.writeFailed, State.sessionWrote]
  · simp [State.wire, State.writeFailed, State.sessionWrote, deliveredBytes, writes_deliveredBytes, -List.map_take]

end Sys2Proof.Machine
end

section
/-! PROOF. The on tests and the greyscale curve of one cell (spec/41_pixel.md R191 to R198). The machine computes on the
brightness sum; the exact average is a third of it, so a threshold of the average is a third of one of the sum. -/

namespace Sys2Proof

theorem Cell.avg?_eq_some {c : Cell} {a : ℚ} : c.avg? = some a ↔ ∃ s, c.sum? = some s ∧ (s : ℚ) / 3 = a :=
  Option.map_eq_some_iff

/-- R193 on the sum. -/
theorem Cell.onSmall_iff_of_sum? : ∀ {c : Cell} {s : Nat}, c.sum? = some s → (c.onSmall = true ↔ 381 < s)
  | .grey _, _, rfl => decide_eq_true_iff
  | .rgb _ _ _, _, rfl => decide_eq_true_iff

/-- R194 on the sum. -/
theorem Cell.onWide_iff_of_sum? : ∀ {c : Cell} {s : Nat}, c.sum? = some s → (c.onWide = true ↔ s < 381)
  | .grey _, _, rfl => decide_eq_true_iff
  | .rgb _ _ _, _, rfl => decide_eq_true_iff

/-- R191's range. -/
theorem Cell.sum?_le : ∀ {c : Cell} {s : Nat}, c.sum? = some s → s ≤ 765
  | .grey v, _, rfl => by have := v.isLt; omega
  | .rgb r g b, _, rfl => by have := r.isLt; have := g.isLt; have := b.isLt; omega

theorem natCast_lt_third_iff (n s : ℕ) : (n : ℚ) < (s : ℚ) / 3 ↔ n * 3 < s := by
  rw [lt_div_iff₀ three_pos]; norm_cast

theorem third_lt_natCast_iff (n s : ℕ) : (s : ℚ) / 3 < n ↔ s < n * 3 := by
  rw [div_lt_iff₀ three_pos]; norm_cast

/-- Settles O42: each test compares the sum with 381, three times the threshold. -/
theorem onTestsCompareTheExactAverage : Obligations.OnTestsCompareTheExactAverage := by
  refine ⟨fun c a h => ?_, fun b => ⟨rfl, rfl, rfl⟩⟩
  obtain ⟨s, hs, rfl⟩ := Cell.avg?_eq_some.mp h
  have hsmall : c.onSmall = true ↔ 127 < (s : ℚ) / 3 :=
    (Cell.onSmall_iff_of_sum? hs).trans (natCast_lt_third_iff 127 s).symm
  have hwide : c.onWide = true ↔ (s : ℚ) / 3 < 127 :=
    (Cell.onWide_iff_of_sum? hs).trans (third_lt_natCast_iff 127 s).symm
  refine ⟨hsmall, hwide, ?_⟩
  rw [← Bool.not_eq_true, ← Bool.not_eq_true, hsmall, hwide, not_lt, not_lt, le_antisymm_iff]

/-- Settles O44: one quotient of the sum a band, and the source's vectors by evaluation. -/
theorem greyscaleCurveBandsAndVectors : Obligations.GreyscaleCurveBandsAndVectors := by
  refine ⟨fun s hs => ?_, by decide⟩
  unfold curve
  split_ifs <;> omega

theorem curve_le {s : Nat} (hs : s ≤ 765) : curve s ≤ 255 := by
  have hbands := greyscaleCurveBandsAndVectors.1 s hs
  omega

theorem floor_eq_of_eq_natCast_div {a : ℚ} {m n : ℕ} (h : a = m / n) : ⌊a⌋₊ = m / n :=
  h ▸ Nat.floor_div_eq_div m n

/-- R196: the curve of R195 has its band ends at a third of the integer curve's, and in each band it floors a quotient
of naturals (D5, D6). -/
theorem curveOfAvg_third (s : ℕ) : curveOfAvg ((s : ℚ) / 3) = curve s := by
  have h200 : 200 < (s : ℚ) / 3 ↔ 600 < s := natCast_lt_third_iff 200 s
  have h150 : 150 < (s : ℚ) / 3 ↔ 450 < s := natCast_lt_third_iff 150 s
  have h100 : 100 < (s : ℚ) / 3 ↔ 300 < s := natCast_lt_third_iff 100 s
  have h50 : 50 ≤ (s : ℚ) / 3 ↔ 150 ≤ s := le_iff_le_iff_lt_iff_lt.mpr (third_lt_natCast_iff 50 s)
  simp only [curveOfAvg, curve, h200, h150, h100, h50]
  split_ifs <;> exact floor_eq_of_eq_natCast_div (by push_cast; ring)

/-- Settles O43: the byte is the integer curve of the sum, which is at most 255. -/
theorem greyscaleIsTheFlooredRationalCurve : Obligations.GreyscaleIsTheFlooredRationalCurve := by
  refine ⟨fun c a h => ?_, fun b => rfl⟩
  obtain ⟨s, hs, rfl⟩ := Cell.avg?_eq_some.mp h
  refine ⟨BitVec.ofNat 8 (curve s), by rw [Cell.grey?, hs, Option.map_some], ?_⟩
  rw [curveOfAvg_third, BitVec.toNat_ofNat, Nat.mod_eq_of_lt (Nat.lt_succ_of_le (curve_le (Cell.sum?_le hs)))]

end Sys2Proof
end

section
/-! PROOF. The round trip of the full-frame payload (spec/42_encode_mono.md R221, R223). -/

namespace Sys2Proof

theorem CellMatrix.hasDims_iff {m : CellMatrix} {w h : Nat} :
    m.hasDims w h = true ↔ m.length = w ∧ ∀ col ∈ m, col.length = h := by
  simp [hasDims]

/-- Reading the on test at each place of a matrix in turn is mapping its cells (R11, R61). -/
theorem CellMatrix.tabulate_onAt (on : Cell → Bool) {m : CellMatrix} {w h : Nat} (hm : m.hasDims w h = true) :
    ((List.range w).map fun x => (List.range h).map fun y => Cell.bin (m.onAt on x y)) =
      m.map fun col => col.map fun c => Cell.bin (on c) := by
  obtain ⟨hw, hcols⟩ := hasDims_iff.mp hm
  refine List.ext_getElem (by simp [hw]) fun x _ hx => ?_
  rw [List.length_map] at hx
  rw [List.getElem_map, List.getElem_map, List.getElem_range]
  refine List.ext_getElem (by simp [hcols _ (List.getElem_mem hx)]) fun y _ hy => ?_
  rw [List.length_map] at hy
  simp [onAt_of_getElem? on (List.getElem?_eq_getElem hx) (List.getElem?_eq_getElem hy)]

/-- Unpacking reads back the on test of each place, since its bit is its own (R223). -/
theorem unpack1_pack1 (m : CellMatrix) :
    unpack1 (pack1 m) =
      (List.range 9).map fun x => (List.range 34).map fun y => Cell.bin (m.onAt Cell.onSmall x y) := by
  refine List.map_congr_left fun x hx => List.map_congr_left fun y hy => ?_
  rw [Param.smallWidth, bitAt_pack1_cell m (List.mem_range.mp hx) (List.mem_range.mp hy)]

/-- A BIN cell is on as given (R193). -/
theorem Cell.bin_onSmall_of_kind_eq_bin : ∀ {c : Cell}, c.kind = .bin → Cell.bin c.onSmall = c
  | .bin _, _ => rfl

theorem CellMatrix.map_bin_onSmall_of_allOfKind_bin {m : CellMatrix} (hm : m.allOfKind .bin = true) :
    (m.map fun col => col.map fun c => Cell.bin c.onSmall) = m := by
  have hkind : ∀ col ∈ m, ∀ c ∈ col, c.kind = .bin := by simpa [allOfKind] using hm
  refine (List.map_congr_left fun col hcol => ?_).trans (List.map_id m)
  exact (List.map_congr_left fun c hc => Cell.bin_onSmall_of_kind_eq_bin (hkind col hcol c hc)).trans (List.map_id col)

/-- Settles O46, by the bit each cell has of its own, read back in the loop order of `Unpack1`. -/
theorem unpackingTheFullFrameGivesTheMatrix : Obligations.UnpackingTheFullFrameGivesTheMatrix := by
  have hunpack : ∀ m : CellMatrix, m.hasDims 9 34 = true →
      unpack1 (pack1 m) = m.map fun col => col.map fun c => Cell.bin c.onSmall :=
    fun m hm => (unpack1_pack1 m).trans (CellMatrix.tabulate_onAt Cell.onSmall hm)
  exact ⟨hunpack, fun m hm hbin => (hunpack m hm).trans (CellMatrix.map_bin_onSmall_of_allOfKind_bin hbin)⟩

end Sys2Proof
end

section
/-! PROOF. The bits of a packed column (spec/42_encode_mono.md R225, spec/44_encode_wide.md R271). -/

namespace Sys2Proof

theorem bitAt_of_length_le {p : List Byte} {j : Nat} (hj : p.length ≤ j / 8) : bitAt p j = false := by
  simp [bitAt, hj]

/-- A bit of a packed column is set where the row of that index is within the height and on (R225); past the buffer
there is no bit, and no row. -/
theorem bitAt_packCol (on : Cell → Bool) (m : CellMatrix) (x h j : Nat) :
    bitAt (packCol on m x h) j = (decide (j < h) && m.onAt on x j) := by
  by_cases hbyte : j / 8 < (h + 7) / 8
  · rw [packCol, bitAt_foldl_setBit (fun y => m.onAt on x y) (fun y => y) _ _ _ (by simpa using hbyte), bitAt_zeros,
      Bool.false_or, Bool.eq_iff_iff]
    simp [and_comm]
  · have hrow : ¬ j < h := by omega
    rw [bitAt_of_length_le (by simpa using hbyte)]
    simp [hrow]

/-- Settles O47: within the height a bit is the on test of its row, from the height on there is no row. -/
theorem columnBitIsTheCellsOnTest : Obligations.ColumnBitIsTheCellsOnTest := by
  intro on m x h
  have hrow : ∀ y, y < h → bitAt (packCol on m x h) y = m.onAt on x y := fun y hy => by simp [bitAt_packCol, hy]
  refine ⟨packCol_length on m x h, hrow, fun y col c hy hcol hc => ?_, fun j hj => ?_⟩
  · rw [hrow y hy, onAt_of_getElem? on hcol hc]
  · simp [bitAt_packCol, hj]

end Sys2Proof
end

section
/-! PROOF. The frames CHECK builds for the two monochrome modes of the small display (spec/40_codec.md R133, R142,
spec/42_encode_mono.md R220 to R226). -/

namespace Sys2Proof.Machine

/-- CHECK loads the frames of a well-formed request of the right geometry (R133, R142). -/
theorem exec_of_wellFormed {s : State} {i : Instr} {r : Request} (hp : s.phase = .check)
    (hreq : i.request? s.cfg = some r) (hwf : r.wellFormed s.cfg = true) (hdims : r.dimsOk = true) :
    exec i s = .next (s.loadFrames (r.frames s.cfg)) := by
  simp [exec_of_check hp, checkStep, hreq, refusal?_eq_none.mpr hwf, hdims]

/-- Settles O14: three bytes in front of the 39 of the payload (R131, R221). -/
theorem modeOneSendsOneDrawCommand : Obligations.ModeOneSendsOneDrawCommand := fun m =>
  ⟨rfl, by simp [enc1, Param.fullLen]⟩

theorem frames_encFullMono (cfg : Config) (m : CellMatrix) :
    (Request.encFullMono m).frames cfg = [frameOf 0x06 (pack1 m)] := by
  simp [Request.frames, Request.commands, enc1]

/-- Settles O13: the frames of mode 1 are the one frame of the one command of `Enc1` (R222). -/
theorem fullMonoBuildsOneDrawFrame : Obligations.FullMonoBuildsOneDrawFrame := by
  intro s m hp hm hdims
  obtain ⟨hframe, hlength⟩ := frameIsMagicOpcodeParameters 0x06 (pack1 m)
  rw [exec_of_wellFormed (r := .encFullMono m) hp rfl hm hdims, frames_encFullMono, ← hframe, hlength, pack1_length]
  exact ⟨rfl, rfl⟩

section
variable {cfg : Config} {stage commit : Byte} (hs : cfg.monoStageOp = some stage) (hc : cfg.monoCommitOp = some commit)
include hs hc

theorem monoConfigured_of_admits (hstage : cfg.admits stage = true) (hcommit : cfg.admits commit = true) :
    cfg.monoConfigured = true := by
  simp [Config.monoConfigured, hs, hc, hstage, hcommit]

/-- The frames of `Enc2` under the given opcodes (R226). -/
theorem frames_encColMono (m : CellMatrix) :
    (Request.encColMono m).frames cfg =
      ((List.range 9).map fun x => frameOf stage (BitVec.ofNat 8 x :: packCol Cell.onSmall m x 34)) ++
        [frameOf commit []] := by
  simp [Request.frames, Request.commands, hs, hc, enc2, Param.smallWidth, Param.smallHeight]

end

/-- Settles O15: with its opcodes admitted mode 2 is well formed, and its frames are those of `Enc2`. -/
theorem colMonoBuildsNineStagesAndACommit : Obligations.ColMonoBuildsNineStagesAndACommit := by
  intro s m stage commit hp hs hc hstage hcommit hm hdims
  have hwf : (Request.encColMono m).wellFormed s.cfg = true := by
    simp [Request.wellFormed, hm, monoConfigured_of_admits hs hc hstage hcommit]
  rw [exec_of_wellFormed hp rfl hwf hdims, frames_encColMono hs hc m]
  rfl

end Sys2Proof.Machine
end

section
/-! PROOF. The frames CHECK builds for the greyscale mode (spec/43_encode_grey.md R250 to R252). -/

namespace Sys2Proof.Machine

/-- The frames of `Enc3` (R252); the index byte in front of the intensities is decision D10. -/
theorem frames_encColGrey (cfg : Config) (m : CellMatrix) :
    (Request.encColGrey m).frames cfg =
      ((List.range 9).map fun x => frameOf 0x07 (BitVec.ofNat 8 x :: greyCol m x)) ++ [frameOf 0x08 []] := by
  simp [Request.frames, Request.commands, enc3, Param.smallWidth]

/-- Settles O16: without BIN cells mode 3 is well formed, and its frames are those of `Enc3`. -/
theorem colGreyBuildsNineStagesAndACommit : Obligations.ColGreyBuildsNineStagesAndACommit := by
  intro s m hp hm hb hdims
  have hwf : (Request.encColGrey m).wellFormed s.cfg = true := by simp [Request.wellFormed, hm, hb]
  rw [exec_of_wellFormed hp rfl hwf hdims, frames_encColGrey]
  rfl

end Sys2Proof.Machine
end

section
/-! PROOF. The column index and the frames CHECK builds for the wide monochrome mode (spec/44_encode_wide.md R270 to
R273). -/

namespace Sys2Proof

/-- Settles O48: with x at most 299 both fields are below 256, so neither byte drops a bit, and the high one is below
2. -/
theorem columnIndexIsLittleEndian : Obligations.ColumnIndexIsLittleEndian := by
  refine ⟨fun x hx => ?_, by decide⟩
  have hlo : (BitVec.ofNat 8 (x % 256)).toNat = x % 256 := Nat.mod_eq_of_lt (by omega)
  have hhi : (BitVec.ofNat 8 (x / 256)).toNat = x / 256 := Nat.mod_eq_of_lt (by omega)
  have hbit : x / 256 = 0 ∨ x / 256 = 1 := by omega
  exact ⟨_, _, rfl, hlo, hhi, by rw [hlo, hhi, Nat.mod_add_div], hbit.imp (congrArg _) (congrArg _)⟩

namespace Machine

/-- The frames of `Enc4` (R273), with the columns of `WideCol` written out (R271). -/
theorem frames_encWideMono (cfg : Config) (m : CellMatrix) :
    (Request.encWideMono m).frames cfg =
      ((List.range 300).map fun x => frameOf 0x16 (idx16 x ++ packCol Cell.onWide m x 400)) ++ [frameOf 0x17 []] := by
  simp [Request.frames, Request.commands, enc4, wideCol, Param.wideWidth, Param.wideHeight]

/-- Settles O17: mode 4 asks no more of the matrix than one kind of cell, and its frames are those of `Enc4`. -/
theorem wideMonoBuildsThreeHundredStagesAndAFlush : Obligations.WideMonoBuildsThreeHundredStagesAndAFlush := by
  intro s m hp hm hdims
  rw [exec_of_wellFormed hp rfl (r := .encWideMono m) hm hdims, frames_encWideMono]
  rfl

end Machine

end Sys2Proof
end

section
/-! PROOF. Every waiting requester can be the one served next (spec/60_exceptions.md R315): the choice is how many
requesters in front of it wait too. -/

namespace Sys2Proof.Machine

/-- Choice 0 is the first requester that waits. -/
theorem pick_zero_cons (i : Instr) (q : List Instr) (queues : List (List Instr)) :
    pick 0 ((i :: q) :: queues) = some (i, q :: queues) := by
  simp [pick]

/-- A requester that does not wait is passed over. -/
theorem pick_nil_cons {k : Nat} {queues left : List (List Instr)} {i : Instr} (h : pick k queues = some (i, left)) :
    pick k ([] :: queues) = some (i, [] :: left) := by
  simp [pick, h]

/-- A requester that waits counts for one in the choice of a later one. -/
theorem pick_succ_cons {k : Nat} {queues left : List (List Instr)} {i : Instr} (h : pick k queues = some (i, left))
    (j : Instr) (q : List Instr) : pick (k + 1) ((j :: q) :: queues) = some (i, (j :: q) :: left) := by
  have hwaits : queues.all List.isEmpty = false := by
    obtain ⟨pre, q', post, rfl, -⟩ := pick_eq_some h
    simp
  simp [pick, hwaits, h]

/-- Settles O38, by induction on the requesters in front of the one to serve: each that waits adds one to the choice. -/
theorem everyWaitingRequesterCanBeChosen : Obligations.EveryWaitingRequesterCanBeChosen := by
  intro pre post i q
  induction pre with
  | nil => exact ⟨0, pick_zero_cons i q post⟩
  | cons first pre ih =>
    obtain ⟨k, hk⟩ := ih
    cases first with
    | nil => exact ⟨k, pick_nil_cons hk⟩
    | cons j q' => exact ⟨k + 1, pick_succ_cons hk j q'⟩

end Sys2Proof.Machine
end

section
/-! PROOF. The dimension error of CHECK (spec/60_exceptions.md R301). -/

namespace Sys2Proof.Machine

/-- CHECK completes a well-formed request of the wrong geometry, and makes no transport call (R133, R301). -/
theorem exec_of_wrong_dims {s : State} {i : Instr} {r : Request} (hp : s.phase = .check)
    (hreq : i.request? s.cfg = some r) (hwf : r.wellFormed s.cfg = true) (hdims : r.dimsOk = false) :
    exec i s = .next (dimensionErrorState s) := by
  have hcompleted : (s.raise .dimensionError).complete r.resp = dimensionErrorState s :=
    complete_of_err (code := .dimensionError) rfl nofun r.resp
  simp [exec_of_check hp, checkStep, hreq, refusal?_eq_none.mpr hwf, hdims, hcompleted]

/-- Settles O18: each mode with a matrix of one kind and what R99 asks of it besides is well formed, so its geometry
decides. -/
theorem wrongGeometryCompletesWithDimensionError : Obligations.WrongGeometryCompletesWithDimensionError := by
  refine ⟨fun s m hp hm => ⟨fun hdims => ⟨?fullMono, fun hmono => ?colMono, fun hbin => ?colGrey⟩,
    fun hdims => ?wideMono⟩, fun _ _ _ => CellMatrix.hasDims_iff⟩
  case fullMono => exact exec_of_wrong_dims (r := .encFullMono m) hp rfl hm hdims
  case colMono =>
    have hwf : (Request.encColMono m).wellFormed s.cfg = true := by simp [Request.wellFormed, hm, hmono]
    exact exec_of_wrong_dims hp rfl hwf hdims
  case colGrey =>
    have hwf : (Request.encColGrey m).wellFormed s.cfg = true := by simp [Request.wellFormed, hm, hbin]
    exact exec_of_wrong_dims hp rfl hwf hdims
  case wideMono => exact exec_of_wrong_dims (r := .encWideMono m) hp rfl hm hdims

end Sys2Proof.Machine
end

section
/-! PROOF. A transport call that never returns (spec/60_exceptions.md R318, decision D34), the case the steps by answer
above leave. -/

namespace Sys2Proof.Machine

section
variable {s : State} (i : Instr) (ha : s.reply = .never)
include ha

theorem exec_of_open_never (hp : s.phase = .opening) : exec i s = .fault (.neverReturns .openSession) := by
  simp [exec_of_opening i hp, openStep, ha]

theorem exec_of_write_never {f : Frame} (hp : s.phase = .write) (hf : s.frames[s.fidx]? = some f) :
    exec i s = .fault (.neverReturns (.write f)) := by
  simp [exec_of_write i hp, writeStep, fidx_ne_length_of_frame hf, hf, ha]

theorem exec_of_read_never (hp : s.phase = .read) : exec i s = .fault (.neverReturns (.read 32)) := by
  simp [exec_of_read i hp, readStep, ha]

theorem exec_of_close_never (hp : s.phase = .close) : exec i s = .fault (.neverReturns .close) := by
  simp [exec_of_close i hp, closeStep, ha]

end

/-- Settles O24: by the phase, whose call the fault names. -/
theorem aCallThatNeverReturnsIsStuck : Obligations.ACallThatNeverReturnsIsStuck := fun i _ ha =>
  ⟨exec_of_open_never i ha, fun _ hp _ hf => exec_of_write_never i ha hp hf, exec_of_read_never i ha,
    exec_of_close_never i ha⟩

end Sys2Proof.Machine
end

section
/-! PROOF. The step that takes a reset (spec/70_reset_and_hazards.md R340, decision D23). -/

namespace Sys2Proof.Machine

theorem applyReset_of_idle {s : State} (hp : s.phase = .idle) : applyReset s = .next s.resetPfe := by
  simp [applyReset, hp]

theorem applyReset_of_ne_idle {s : State} (hp : s.phase ≠ .idle) : applyReset s = .refused .resetOutsideIdle := by
  unfold applyReset
  split
  · contradiction
  · rfl

/-- A reset comes before whatever PFE would do next. -/
theorem step_of_resetLine {s : State} (hr : s.resetLine = true) : step s = applyReset s :=
  if_pos hr

/-- Settles O41: the step is the reset, which answers `State.resetPfe` in IDLE and refuses in every other phase. -/
theorem resetIsTakenInIdleOnly : Obligations.ResetIsTakenInIdleOnly := by
  intro s hr
  rw [step_of_resetLine hr]
  refine ⟨fun hp => ⟨s.resetPfe, applyReset_of_idle hp, ?_⟩, applyReset_of_ne_idle⟩
  simp

end Sys2Proof.Machine
end
